-- ==== Sys2Proof/Word.lean ====
section
/-! DEFINITION. The widths of 00_scope.md R5 and R7 as names: what the spec treats as bits is a bit vector. -/

namespace Sys2Proof

/-- WORD_W = 32: a measurement, a setpoint or the host bus data (00_scope.md R5, R7). Its int32 reading is `BitVec.toInt`. -/
abbrev Word := BitVec 32

/-- ADC_BITS = 10: one RawSample, 0..1023 (00_scope.md R5). -/
abbrev RawSample := BitVec 10

/-- The u14 accumulator word (10_state.md R25). -/
abbrev AccWord := BitVec 14

/-- The u16 duty count (10_state.md R30). -/
abbrev DutyWord := BitVec 16

/-- A Format P word: the phase code (30_encoding.md R81). -/
abbrev PhaseWord := BitVec 3

/-- A Format H word: one host transaction (30_encoding.md R82). -/
abbrev HostWord := BitVec 37

/-- One byte of a code word's byte layout (log 12). -/
abbrev Byte := BitVec 8

end Sys2Proof
end

