-- ==== Sys2Proof/Config.lean ====
section
/-! DEFINITION. The implementation parameters of 00_scope.md R5: the literals under their names, the OPEN parameters as a structure, the spec's test configuration TC1, and the free values. -/

namespace Sys2Proof

/-- The OPEN parameters (00_scope.md R5, 20_memory.md R70). Any value may be given; a configuration that fails CFG_WF (R6) is refused by the step. The state carries the configuration as plain data and no step changes it (10_state.md R43). DESIGN CHOICE, log 1. -/
structure Config where
  /-- K_SHUNT, `shuntMicrovoltsPerStep`. -/
  kShunt : Nat
  /-- D_SHUNT, `scalingDivisor`; CFG_WF demands at least 1. -/
  dShunt : Nat
  /-- K_LG, `millivoltsPerStepLowGain`. -/
  kLg : Nat
  /-- K_HG, `tenthMillivoltsPerStepHighGain`. -/
  kHg : Nat
  /-- OFF_HG, `highGainOffset`, an integer in mV. -/
  offHg : Int
  /-- P_TARGET_RESET, TARGET after reset, int32. -/
  pTargetReset : Word
  /-- P_LVC_RESET, LVCUT after reset, int32. -/
  pLvcReset : Word
  /-- P_REG_BASE, where a platform puts the register space; "no rule of this spec reads" it (20_memory.md R70). Log 21. -/
  pRegBase : Nat
deriving DecidableEq, Repr

/-- TC1, the spec's own test configuration (92_eei_decisions.md D37); it is a calibration of no device. P_REG_BASE has no value there: 0. DESIGN CHOICE, log 1 and log 21. -/
def Config.tc1 : Config :=
  { kShunt := 4883, dShunt := 1000, kLg := 20, kHg := 62, offHg := 50,
    pTargetReset := 1000#32, pLvcReset := 2000#32, pRegBase := 0 }

/-- N_HIST: ring depth per channel (00_scope.md R5). Log 22 for this and the literals below. -/
abbrev Config.nHist : Nat := 12
/-- HG_DIV: divisor of the high-gain path. -/
abbrev Config.hgDiv : Int := 10
/-- GAIN_THRESH in mV, inclusive. -/
abbrev Config.gainThresh : Int := 6000
/-- P_DIV: power divisor. -/
abbrev Config.pDiv : Int := 1000
/-- FAN_THRESH in mW, strict. -/
abbrev Config.fanThresh : Int := 2500
/-- DUTY_MIN: lower stepping bound. -/
abbrev Config.dutyMin : DutyWord := 300#16
/-- DUTY_MAX: upper stepping bound. -/
abbrev Config.dutyMax : DutyWord := 1000#16
/-- PWM_RELOAD: a DUTY of at least this means fully off. -/
abbrev Config.pwmReload : DutyWord := 1024#16
/-- DUTY_OFF: the off sentinel. -/
abbrev Config.dutyOff : DutyWord := 1025#16

/-- FREE VALUE: what an accumulator holds after an exact sum that does not fit u14. The spec calls the sum exact and in 0..12276 (40_sampler.md R100), which holds in every state reachable from reset; for other states it states no value. The n-th use draws the n-th value. DESIGN CHOICE, log 8. -/
opaque Config.unfitAcc : Nat → AccWord

/-- FREE VALUE: what an int32 register holds after an exact result that does not fit int32. CFG_WF rules this out in every state reachable from reset (00_scope.md R8); for other states the spec states no value. DESIGN CHOICE, log 8. -/
opaque Config.unfitWord : Nat → Word

end Sys2Proof
end

