-- ==== Sys2Proof/Machine/State.lean ====
section
/-! DEFINITION. The machine's state as plain data: every element of 10_state.md R22 to R38, the ports that hold a value between steps, and the model's own fields. -/

namespace Sys2Proof.Machine

/-- The three analog channels (10_state.md R23): ch 0, 1 and 2. -/
inductive Channel where
  /-- ch 0, the load current. -/
  | shunt
  /-- ch 1. -/
  | lowGain
  /-- ch 2. -/
  | highGain
deriving DecidableEq, Repr

/-- MODE, u2 (10_state.md R31). -/
inductive Mode where
  /-- 0. -/
  | off
  /-- 1: has an encoding and no transition (44_mode.md R172). -/
  | set
  /-- 2. -/
  | on
  /-- 3: the low-voltage cutoff. -/
  | lvc
deriving DecidableEq, Repr

/-- DISP_MODE, u2 (10_state.md R32). -/
inductive DispMode where
  /-- 0. -/
  | volts
  /-- 1. -/
  | amps
  /-- 2. -/
  | amphours
  /-- 3. -/
  | watts
deriving DecidableEq, Repr

/-- One turn of a run: who takes the next atomic step (20_memory.md R65), and what the environment puts on the input ports in it (10_state.md R42). DESIGN CHOICE, log 3. -/
inductive Turn where
  /-- SEQ's turn. `adc` is `adc_done` with `adc_data` in this step, `ack` is `disp_ack` in this step: a SAMPLE phase needs the first, HANDOFF the second. -/
  | seq (adc : Option RawSample) (ack : Bool)
  /-- The host presents one transaction (45_handoff_and_host.md R202, R203). -/
  | host (word : HostWord)
  /-- `press a` (44_mode.md R173). -/
  | pressA
  /-- `press b` (44_mode.md R173). -/
  | pressB
  /-- `rst` is asserted (70_reset_and_hazards.md R250). -/
  | rstAssert
  /-- `rst` is released (70_reset_and_hazards.md R250). -/
  | rstRelease
deriving DecidableEq, Repr

/-- One history ring: exactly N_HIST = 12 cells of 10 bits (10_state.md R23). -/
abbrev Ring := Vector RawSample 12

/-- The state of the block. Plain data throughout. -/
structure State where
  /-- PHASE, the program counter (10_state.md R22). -/
  phase : PhaseWord
  /-- HIST[0] (10_state.md R23). -/
  histShunt : Ring
  /-- HIST[1] (10_state.md R23). -/
  histLowGain : Ring
  /-- HIST[2] (10_state.md R23). -/
  histHighGain : Ring
  /-- CURSOR (10_state.md R24). -/
  cursor : BitVec 4
  /-- ACC[0] (10_state.md R25). -/
  accShunt : AccWord
  /-- ACC[1] (10_state.md R25). -/
  accLowGain : AccWord
  /-- ACC[2] (10_state.md R25). -/
  accHighGain : AccWord
  /-- CURRENT, int32, mA (10_state.md R26). -/
  current : Word
  /-- VOLTAGE, int32, mV (10_state.md R27). -/
  voltage : Word
  /-- POWER, int32, mW (10_state.md R28). -/
  power : Word
  /-- HG (10_state.md R29). -/
  highGain : Bool
  /-- DUTY (10_state.md R30). -/
  duty : DutyWord
  /-- MODE (10_state.md R31). -/
  mode : Mode
  /-- DISP_MODE (10_state.md R32). -/
  dispMode : DispMode
  /-- LAST_OK (10_state.md R33). -/
  lastOk : Bool
  /-- PEND_A (10_state.md R34). -/
  pendA : Bool
  /-- PEND_B (10_state.md R34). -/
  pendB : Bool
  /-- TARGET, int32, mA (10_state.md R35). -/
  target : Word
  /-- LVCUT, int32, mV (10_state.md R36). -/
  lvcut : Word
  /-- FAN (10_state.md R37). -/
  fan : Bool
  /-- LED (10_state.md R38). -/
  led : Bool
  /-- The input port `rst` (10_state.md R42): asserted or not. Log 6. -/
  rst : Bool
  /-- The bus's read-data return path, as the last READ left it (30_encoding.md R82). No state element of the spec. Log 5. -/
  rdata : Word
  /-- The MODEL's own: the turns still to come, next first; the empty list is a silent environment. Log 3. -/
  env : List Turn
  /-- The MODEL's own: the configuration, fixed for a run (10_state.md R43). Log 1. -/
  cfg : Config
  /-- The MODEL's own: how many free values have been used. Log 9. -/
  freeUses : Nat
deriving DecidableEq, Repr

/-- Why the machine stops with a fault. -/
inductive Fault where
  /-- FAULT_STATE, outcome O4 of 60_exceptions.md R221: raised by a SAMPLE step that meets CURSOR >= 12, through HistRead and HistWrite (10_state.md R24, 20_memory.md R61). Safe: the spec itself names it, and no run from reset meets it. Log 7. -/
  | faultState
deriving DecidableEq, Repr

/-- Why the machine gives no meaning. -/
inductive Refusal where
  /-- An instruction without a meaning yet, by its mnemonic; no arm of `exec` raises it. Safe. -/
  | notModelled (mnemonic : String)
  /-- REFUSE_CFG, outcome O3 of 60_exceptions.md R221: raised by any step, and by `derive`, when the configuration fails CFG_WF (00_scope.md R6). Safe: the spec itself names it. Log 14. -/
  | refuseCfg
deriving DecidableEq, Repr

/-- The answer of one instruction or one step. -/
abbrev Result := Host.Outcome State Fault Refusal

/-- Reset under a configuration: every element at the value its rule gives (70_reset_and_hazards.md R250). Right after reset `rst` is released, nothing is on the read path and the environment is silent (logs 3, 5, 6, 9). -/
def State.resetOf (c : Config) : State :=
  { phase := 0#3
    histShunt := Vector.replicate 12 0#10
    histLowGain := Vector.replicate 12 0#10
    histHighGain := Vector.replicate 12 0#10
    cursor := 0#4
    accShunt := 0#14
    accLowGain := 0#14
    accHighGain := 0#14
    current := 0#32
    voltage := 0#32
    power := 0#32
    highGain := false
    duty := Config.dutyOff
    mode := .off
    dispMode := .volts
    lastOk := false
    pendA := false
    pendB := false
    target := c.pTargetReset
    lvcut := c.pLvcReset
    fan := false
    led := true
    rst := false
    rdata := 0#32
    env := []
    cfg := c
    freeUses := 0 }

/-- The machine right after reset, under the spec's test configuration TC1 (92_eei_decisions.md D37): the OPEN parameters have no value in the spec. DESIGN CHOICE, unsafe, log 1 and log 2; `State.resetOf` takes any configuration. -/
def State.reset : State := State.resetOf Config.tc1

end Sys2Proof.Machine
end

