-- ==== Sys2Proof/Machine/Operands.lean ====
section
/-! DEFINITION. Operand forms: the fixed-point arithmetic of 41_deriver.md, the encodings of the enumerations, the input ports of a turn, and what a host READ assembles. -/

namespace Sys2Proof.Machine

/-- Integer division truncating toward zero (00_scope.md R8). Log 17. -/
def tdiv (a b : Int) : Int := Int.tdiv a b

/-- The mathematical range of an int32 (00_scope.md R7). -/
def fitsInt32 (v : Int) : Bool := decide (-2147483648 ≤ v) && decide (v ≤ 2147483647)

/-- The mathematical range of a u14 (10_state.md R25). -/
def fitsAcc (v : Int) : Bool := decide (0 ≤ v) && decide (v ≤ 16383)

/-- MEAN: the accumulator divided by N_HIST = 12, truncated (41_deriver.md R120). -/
def mean (acc : AccWord) : Nat := acc.toNat / Config.nHist

/-- I, in mA: product first, then the truncating division (41_deriver.md R121, R122). -/
def currentOf (c : Config) (m : Nat) : Int := tdiv ((m : Int) * (c.kShunt : Int)) (c.dShunt : Int)

/-- V_LG, in mV (41_deriver.md R121). -/
def lowGainOf (c : Config) (m : Nat) : Int := (m : Int) * (c.kLg : Int)

/-- V_HG, in mV: product, truncating division by 10, then the offset; kept signed (41_deriver.md R121, R122, R124). -/
def highGainOf (c : Config) (m : Nat) : Int := tdiv ((m : Int) * (c.kHg : Int)) Config.hgDiv - c.offHg

/-- Power in mW from a current and a voltage (41_deriver.md R121). -/
def powerOf (i v : Int) : Int := tdiv (i * v) Config.pDiv

/-- What an int32 register holds after the exact result `v`: its two's complement bits where `v` fits, else the free value number `n` (00_scope.md R8). DESIGN CHOICE, log 8. -/
def wordOrFree (v : Int) (n : Nat) : Word := if fitsInt32 v then BitVec.ofInt 32 v else Config.unfitWord n

/-- What an accumulator holds after the exact sum `v`: `v` where it fits, else the free value number `n` (40_sampler.md R100). DESIGN CHOICE, log 8. -/
def accOrFree (v : Int) (n : Nat) : AccWord := if fitsAcc v then BitVec.ofInt 14 v else Config.unfitAcc n

/-- The count of free values used, after a store that fitted or did not. Log 9. -/
def usesAfter (fits : Bool) (n : Nat) : Nat := if fits then n else n + 1

/-- The code of MODE: OFF 0, SET 1, ON 2, LVC 3 (10_state.md R31). -/
def modeCode : Mode → BitVec 2
  | .off => 0#2
  | .set => 1#2
  | .on => 2#2
  | .lvc => 3#2

/-- The code of DISP_MODE: VOLTS 0, AMPS 1, AMPHOURS 2, WATTS 3 (10_state.md R32). -/
def dispCode : DispMode → BitVec 2
  | .volts => 0#2
  | .amps => 1#2
  | .amphours => 2#2
  | .watts => 3#2

/-- The display's cycle VOLTS, AMPS, AMPHOURS, WATTS, VOLTS (44_mode.md R176). -/
def nextDisp : DispMode → DispMode
  | .volts => .amps
  | .amps => .amphours
  | .amphours => .watts
  | .watts => .volts

/-- The turn the next step takes; a silent environment leaves SEQ the turn with nothing on its ports. Log 3. -/
def State.turn (s : State) : Turn :=
  match s.env with
  | [] => .seq none false
  | e :: _ => e

/-- `adc_done` with `adc_data` in this step (40_sampler.md R101). -/
def State.adcPort (s : State) : Option RawSample :=
  match s.turn with
  | .seq adc _ => adc
  | .host _ => none
  | .pressA => none
  | .pressB => none
  | .rstAssert => none
  | .rstRelease => none

/-- `disp_ack` in this step (45_handoff_and_host.md R200). -/
def State.dispAck (s : State) : Bool :=
  match s.turn with
  | .seq _ ack => ack
  | .host _ => false
  | .pressA => false
  | .pressB => false
  | .rstAssert => false
  | .rstRelease => false

/-- The ring of a channel (10_state.md R23). -/
def State.ring (s : State) : Channel → Ring
  | .shunt => s.histShunt
  | .lowGain => s.histLowGain
  | .highGain => s.histHighGain

/-- The accumulator of a channel (10_state.md R25). -/
def State.acc (s : State) : Channel → AccWord
  | .shunt => s.accShunt
  | .lowGain => s.accLowGain
  | .highGain => s.accHighGain

/-- LOAD_EN, the combinational output (10_state.md R39, 44_mode.md R175). -/
def State.loadEn (s : State) : Bool := decide (s.mode = .on)

/-- STATUS, from bit 31 down to bit 0 (10_state.md R41). -/
def State.status (s : State) : Word :=
  0#18 ++ s.phase ++ BitVec.ofBool s.pendB ++ BitVec.ofBool s.pendA ++ BitVec.ofBool s.lastOk
    ++ BitVec.ofBool s.led ++ BitVec.ofBool s.loadEn ++ BitVec.ofBool s.fan ++ BitVec.ofBool s.highGain
    ++ dispCode s.dispMode ++ modeCode s.mode

/-- The read data of each word address (10_state.md R40, 45_handoff_and_host.md R202): narrower registers zero-extended (30_encoding.md R83), reserved addresses 0. -/
def State.hostRead (s : State) (addr : BitVec 4) : Word :=
  match addr.toNat with
  | 0 => s.status
  | 1 => s.target
  | 2 => s.lvcut
  | 3 => s.duty.setWidth 32
  | 4 => s.current
  | 5 => s.voltage
  | 6 => s.power
  | 7 => s.cursor.setWidth 32
  | 8 => s.accShunt.setWidth 32
  | 9 => s.accLowGain.setWidth 32
  | 10 => s.accHighGain.setWidth 32
  | _ => 0#32

end Sys2Proof.Machine
end

