-- ==== Sys2Proof/Machine/Admission.lean ====
section
/-! DEFINITION. CFG_WF, the configuration well-formedness of 00_scope.md R6: as the rule writes it, and the check the step evaluates. -/

namespace Sys2Proof.Machine

/-- CFG_WF as 00_scope.md R6 writes it: every measurement of every mean, and every power of every pair of means over both paths, lies in int32. -/
def CfgWf (c : Config) : Prop :=
  1 ≤ c.dShunt ∧
  (∀ m : Nat, m ≤ 1023 →
    fitsInt32 (currentOf c m) = true ∧ fitsInt32 (lowGainOf c m) = true ∧ fitsInt32 (highGainOf c m) = true) ∧
  (∀ m n : Nat, m ≤ 1023 → n ≤ 1023 →
    fitsInt32 (powerOf (currentOf c m) (lowGainOf c n)) = true ∧
    fitsInt32 (powerOf (currentOf c m) (highGainOf c n)) = true)

/-- CFG_WF decided at the end points of the means: every formula is monotone in its mean, so the extremes stand at 0 and 1023. The step evaluates this form; that it is the rule's is a statement. DEDUCED, log 14. -/
def admitted (c : Config) : Bool :=
  decide (1 ≤ c.dShunt)
    && fitsInt32 (currentOf c 1023)
    && fitsInt32 (lowGainOf c 1023)
    && fitsInt32 (highGainOf c 0)
    && fitsInt32 (highGainOf c 1023)
    && fitsInt32 (powerOf (currentOf c 1023) (lowGainOf c 1023))
    && fitsInt32 (powerOf (currentOf c 1023) (highGainOf c 0))
    && fitsInt32 (powerOf (currentOf c 1023) (highGainOf c 1023))

/-- The closed-form check that 00_scope.md R6 calls sufficient. `vAbsMax` is the largest |V| over both paths, which stands at an end point of the means. -/
def closedFormCheck (c : Config) : Prop :=
  1 ≤ c.dShunt ∧
  1023 * c.kShunt ≤ 2147483647 ∧ 1023 * c.kLg ≤ 2147483647 ∧ 1023 * c.kHg ≤ 2147483647 ∧
  c.offHg.natAbs + 1023 * c.kHg / 10 ≤ 2147483647 ∧
  (currentOf c 1023).natAbs
      * max (lowGainOf c 1023).natAbs (max (highGainOf c 0).natAbs (highGainOf c 1023).natAbs) / 1000
    ≤ 2147483647

end Sys2Proof.Machine
end

