-- ==== Sys2Proof/Machine/Flags.lean ====
section
/-! DEFINITION. The comparators and flag computations: gain selection, fan, undervoltage, the legal mode transitions, the stepping conditions. -/

namespace Sys2Proof.Machine

/-- HG: the high-gain path is reported exactly when V_LG is at most 6000, inclusive, with no hysteresis (41_deriver.md R121, R123). -/
def highGainSelected (vLg : Int) : Bool := decide (vLg ≤ Config.gainThresh)

/-- FAN: POWER above 2500, strict and signed (43_protection.md R160, R161). -/
def fanTrip (power : Word) : Bool := decide (Config.fanThresh < power.toInt)

/-- The low-voltage comparator: VOLTAGE below LVCUT, strict and signed (43_protection.md R162). -/
def undervoltage (voltage lvcut : Word) : Bool := decide (voltage.toInt < lvcut.toInt)

/-- Step 2's condition: CURRENT below TARGET, signed, and DUTY above 300 (42_regulator.md R140). -/
def stepsDown (current target : Word) (duty : DutyWord) : Bool :=
  decide (current.toInt < target.toInt) && decide (Config.dutyMin < duty)

/-- Step 3's condition: CURRENT above TARGET, signed, and DUTY below 1000 (42_regulator.md R140). -/
def stepsUp (current target : Word) (duty : DutyWord) : Bool :=
  decide (target.toInt < current.toInt) && decide (duty < Config.dutyMax)

/-- The four legal transitions, and no other pair (44_mode.md R170). -/
def legalTransition : Mode → Mode → Bool
  | .off, .on => true
  | .on, .off => true
  | .on, .lvc => true
  | .lvc, .off => true
  | .off, .off => false
  | .off, .set => false
  | .off, .lvc => false
  | .set, .off => false
  | .set, .set => false
  | .set, .on => false
  | .set, .lvc => false
  | .on, .set => false
  | .on, .on => false
  | .lvc, .set => false
  | .lvc, .on => false
  | .lvc, .lvc => false

/-- "output fully off": a DUTY of at least the reload value 1024 (42_regulator.md R143). -/
def fullyOff (duty : DutyWord) : Bool := decide (Config.pwmReload ≤ duty)

end Sys2Proof.Machine
end

