-- ==== Sys2Proof/Machine/Ops.lean ====
section
/-! DEFINITION. The named operations over the state: one write per register, the history store's primitives, SampleInsert, ChangeMode, the sequencer's gate and advance, the buttons and reset. The block has no exceptions (60_exceptions.md R220, R224, R225), so there is no exception operation. -/

namespace Sys2Proof.Machine

/-- Replace one channel's ring (10_state.md R23). -/
def State.setRing (s : State) (ch : Channel) (r : Ring) : State :=
  match ch with
  | .shunt => { s with histShunt := r }
  | .lowGain => { s with histLowGain := r }
  | .highGain => { s with histHighGain := r }

/-- Store an exact sum into ACC[ch] (10_state.md R25, 40_sampler.md R100). -/
def State.storeAcc (s : State) (ch : Channel) (v : Int) : State :=
  match ch with
  | .shunt => { s with accShunt := accOrFree v s.freeUses, freeUses := usesAfter (fitsAcc v) s.freeUses }
  | .lowGain => { s with accLowGain := accOrFree v s.freeUses, freeUses := usesAfter (fitsAcc v) s.freeUses }
  | .highGain => { s with accHighGain := accOrFree v s.freeUses, freeUses := usesAfter (fitsAcc v) s.freeUses }

/-- PHASE <- (PHASE + 1) mod 8 (10_state.md R22). -/
def State.advance (s : State) : State := { s with phase := s.phase + 1#3 }

/-- CURSOR <- (CURSOR + 1) mod 12 (40_sampler.md R104). -/
def State.advanceCursor (s : State) : State :=
  { s with cursor := BitVec.ofNat 4 ((s.cursor.toNat + 1) % Config.nHist) }

/-- Store an exact integer into CURRENT (10_state.md R26). -/
def State.storeCurrent (s : State) (v : Int) : State :=
  { s with current := wordOrFree v s.freeUses, freeUses := usesAfter (fitsInt32 v) s.freeUses }

/-- Store an exact integer into VOLTAGE (10_state.md R27, 41_deriver.md R124). -/
def State.storeVoltage (s : State) (v : Int) : State :=
  { s with voltage := wordOrFree v s.freeUses, freeUses := usesAfter (fitsInt32 v) s.freeUses }

/-- Store an exact integer into POWER (10_state.md R28). -/
def State.storePower (s : State) (v : Int) : State :=
  { s with power := wordOrFree v s.freeUses, freeUses := usesAfter (fitsInt32 v) s.freeUses }

/-- Write HG (10_state.md R29). -/
def State.setHighGain (s : State) (b : Bool) : State := { s with highGain := b }

/-- Write all 16 bits of DUTY at once (42_regulator.md R142). -/
def State.setDuty (s : State) (d : DutyWord) : State := { s with duty := d }

/-- Write MODE; only ChangeMode and reset do (44_mode.md R172). -/
def State.setMode (s : State) (m : Mode) : State := { s with mode := m }

/-- Write DISP_MODE (10_state.md R32). -/
def State.setDispMode (s : State) (d : DispMode) : State := { s with dispMode := d }

/-- Write LAST_OK (10_state.md R33). -/
def State.setLastOk (s : State) (b : Bool) : State := { s with lastOk := b }

/-- Write PEND_A (10_state.md R34). -/
def State.setPendA (s : State) (b : Bool) : State := { s with pendA := b }

/-- Write PEND_B (10_state.md R34). -/
def State.setPendB (s : State) (b : Bool) : State := { s with pendB := b }

/-- Write TARGET; only the host does (10_state.md R35). -/
def State.setTarget (s : State) (w : Word) : State := { s with target := w }

/-- Write LVCUT; only the host does (10_state.md R36). -/
def State.setLvcut (s : State) (w : Word) : State := { s with lvcut := w }

/-- Write FAN (10_state.md R37). -/
def State.setFan (s : State) (b : Bool) : State := { s with fan := b }

/-- Drive the read-data return path (30_encoding.md R82). -/
def State.setRdata (s : State) (w : Word) : State := { s with rdata := w }

/-- The turn is taken. Log 3. -/
def State.dropTurn (s : State) : State := { s with env := s.env.tail }

/-- HistRead: cell `(ch, i)`; an index of 12 or more faults (20_memory.md R61). -/
def State.histRead (s : State) (ch : Channel) (i : Nat) : Except Fault RawSample :=
  if h : i < 12 then .ok ((s.ring ch)[i]) else .error .faultState

/-- HistWrite: set cell `(ch, i)`; an index of 12 or more faults (20_memory.md R61). -/
def State.histWrite (s : State) (ch : Channel) (i : Nat) (v : RawSample) : Except Fault State :=
  if h : i < 12 then .ok (s.setRing ch ((s.ring ch).set i v h)) else .error .faultState

/-- SampleInsert: the ring write shared by the SAMPLE phases (40_sampler.md R100). -/
def State.sampleInsert (s : State) (ch : Channel) (v : RawSample) : Except Fault State :=
  match s.histRead ch s.cursor.toNat with
  | .error f => .error f
  | .ok old =>
    match s.histWrite ch s.cursor.toNat v with
    | .error f => .error f
    | .ok t => .ok (t.storeAcc ch ((s.acc ch).toNat - old.toNat + v.toNat : Int))

/-- ChangeMode: the guarded transition, with its answer (44_mode.md R171). Leaving ON forces the off sentinel; a rejected request changes LAST_OK alone. -/
def State.changeMode (s : State) (new : Mode) : State × Bool :=
  if legalTransition s.mode new then
    (((if s.mode = .on then s.setDuty Config.dutyOff else s).setMode new).setLastOk true, true)
  else
    (s.setLastOk false, false)

/-- SEQ may execute the phase `k`: PHASE selects it and `rst` is not asserted (30_encoding.md R84, 70_reset_and_hazards.md R250). -/
def State.enabled (s : State) (k : PhaseWord) : Bool := !s.rst && decide (s.phase = k)

/-- A phase's operation happens only where it is enabled; elsewhere SEQ has not moved. DEDUCED, log 10. -/
def phaseOp (k : PhaseWord) (run : State → Result) (s : State) : Result :=
  if s.enabled k then run s else .next s

/-- A SAMPLE phase (40_sampler.md R101 to R104): it happens jointly with the converter's delivery; without one SEQ holds, STUCK_ADC (log 11). `finish` is what follows the insert in the same atomic step. -/
def samplePhase (ch : Channel) (k : PhaseWord) (finish : State → State) : State → Result :=
  phaseOp k fun s =>
    match s.adcPort with
    | none => .next s
    | some c =>
      match s.sampleInsert ch c with
      | .error f => .fault f
      | .ok t => .next (finish t)

/-- Reset while `rst` is asserted: every element at its reset value, the setpoints at their parameters (70_reset_and_hazards.md R250, R251). The environment's turns, the configuration and the count of free values are no elements of the block. Log 6. -/
def State.assertReset (s : State) : State :=
  { State.resetOf s.cfg with rst := true, env := s.env, freeUses := s.freeUses }

/-- The release of `rst`: SEQ starts at PHASE 0 (70_reset_and_hazards.md R250). -/
def State.releaseReset (s : State) : State := { s with rst := false }

/-- What the block holds when a step begins: while `rst` is asserted, the reset values (70_reset_and_hazards.md R250). -/
def State.settle (s : State) : State := if s.rst then s.assertReset else s

/-- `press a` and `press b`: set the latch; during reset no latch is set (44_mode.md R173, 70_reset_and_hazards.md R250). -/
def State.pressA (s : State) : State := if s.rst then s else s.setPendA true

/-- See `State.pressA`. -/
def State.pressB (s : State) : State := if s.rst then s else s.setPendB true

/-- Apply a function to the next state of an answer, and leave a stop as it is. -/
def thenNext (f : State → State) : Result → Result
  | .next s => .next (f s)
  | .fault r => .fault r
  | .refused r => .refused r

end Sys2Proof.Machine
end

