-- ==== Sys2Proof/Machine/Deriver.lean ====
section
/-! DEFINITION. The DERIVE phase (41_deriver.md). -/

namespace Sys2Proof.Machine

/-- The gain selection's writes: VOLTAGE and HG (41_deriver.md R121, R123). -/
def State.selectVoltage (s : State) : State :=
  if highGainSelected (lowGainOf s.cfg (mean s.accLowGain)) then
    (s.storeVoltage (highGainOf s.cfg (mean s.accHighGain))).setHighGain true
  else
    (s.storeVoltage (lowGainOf s.cfg (mean s.accLowGain))).setHighGain false

/-- The measurement: VOLTAGE and HG, then CURRENT, then POWER from I and "the value just selected" of VOLTAGE (41_deriver.md R121; log 18). -/
def State.measure (s : State) : State :=
  let i := currentOf s.cfg (mean s.accShunt)
  let t := s.selectVoltage.storeCurrent i
  t.storePower (powerOf i t.voltage.toInt)

/-- `derive` (41_deriver.md R121). A configuration that fails CFG_WF is refused; the step has refused it before (log 14). -/
def execDerive (s : State) : Result :=
  phaseOp 3#3 (fun s => if admitted s.cfg then .next s.measure.advance else .refused .refuseCfg) s

end Sys2Proof.Machine
end

