-- ==== Sys2Proof/Machine/HandOff.lean ====
section
/-! DEFINITION. The HANDOFF phase (45_handoff_and_host.md R200). -/

namespace Sys2Proof.Machine

/-- `handoff`: happens jointly with `disp_ack`; without it SEQ holds, STUCK_DISPLAY (45_handoff_and_host.md R200; log 11). -/
def execHandoff (s : State) : Result := phaseOp 7#3 (fun s => if s.dispAck then .next s.advance else .next s) s

end Sys2Proof.Machine
end

