-- ==== Sys2Proof/Machine/HostPort.lean ====
section
/-! DEFINITION. The host register port (45_handoff_and_host.md R202, R203). -/

namespace Sys2Proof.Machine

/-- Which register a host WRITE reaches: TARGET at 0x1, LVCUT at 0x2, nothing elsewhere (45_handoff_and_host.md R203). -/
def State.hostWrite (s : State) (addr : BitVec 4) (data : Word) : State :=
  match addr.toNat with
  | 1 => s.setTarget data
  | 2 => s.setLvcut data
  | _ => s

/-- `rd`: the word's value on the return path; during reset 0 (45_handoff_and_host.md R202, 70_reset_and_hazards.md R250). Log 5 for the return path. -/
def execRd (addr : BitVec 4) (s : State) : Result := .next (s.setRdata (if s.rst then 0#32 else s.hostRead addr))

/-- `wr`: during reset no effect (45_handoff_and_host.md R203, 70_reset_and_hazards.md R250). -/
def execWr (addr : BitVec 4) (data : Word) (s : State) : Result :=
  .next (if s.rst then s else s.hostWrite addr data)

end Sys2Proof.Machine
end

