-- ==== Sys2Proof/Machine/ModeMachine.lean ====
section
/-! DEFINITION. The MODE phase: the button events (44_mode.md). -/

namespace Sys2Proof.Machine

/-- Button A: toggles ON and OFF; any other mode requests ON and is rejected (44_mode.md R174). -/
def State.buttonA (s : State) : State :=
  if s.pendA then
    if s.mode = .on then ((s.setPendA false).changeMode .off).1 else ((s.setPendA false).changeMode .on).1
  else s

/-- Button B, on the mode A left: cycles the display in OFF, acknowledges in LVC, else nothing (44_mode.md R174). -/
def State.buttonB (s : State) : State :=
  if s.pendB then
    match s.mode with
    | .off => (s.setPendB false).setDispMode (nextDisp s.dispMode)
    | .lvc => ((s.setPendB false).changeMode .off).1
    | .on => s.setPendB false
    | .set => s.setPendB false
  else s

/-- `mode`: button A first, then button B (44_mode.md R174). -/
def execMode (s : State) : Result := phaseOp 5#3 (fun s => .next s.buttonA.buttonB.advance) s

end Sys2Proof.Machine
end

