-- ==== Sys2Proof/Machine/Protection.lean ====
section
/-! DEFINITION. The PROTECT phase (43_protection.md). -/

namespace Sys2Proof.Machine

/-- `protect`: the fan comparator, in every mode (43_protection.md R160). -/
def execProtect (s : State) : Result := phaseOp 4#3 (fun s => .next (s.setFan (fanTrip s.power)).advance) s

end Sys2Proof.Machine
end

