-- ==== Sys2Proof/Machine/Regulator.lean ====
section
/-! DEFINITION. The REGULATE phase (42_regulator.md). -/

namespace Sys2Proof.Machine

/-- One bang-bang step, or the low-voltage trip; only in ON (42_regulator.md R140, R141). -/
def State.regulateDuty (s : State) : State :=
  if s.mode = .on then
    if undervoltage s.voltage s.lvcut then ((s.setDuty Config.dutyOff).changeMode .lvc).1
    else if stepsDown s.current s.target s.duty then s.setDuty (s.duty - 1#16)
    else if stepsUp s.current s.target s.duty then s.setDuty (s.duty + 1#16)
    else s
  else s

/-- `regulate` (42_regulator.md R140). -/
def execRegulate (s : State) : Result := phaseOp 6#3 (fun s => .next s.regulateDuty.advance) s

end Sys2Proof.Machine
end

