-- ==== Sys2Proof/Machine/Sampler.lean ====
section
/-! DEFINITION. The three SAMPLE phases (40_sampler.md). -/

namespace Sys2Proof.Machine

/-- `sample.sh` (40_sampler.md R102). -/
def execSampleSh (s : State) : Result := samplePhase .shunt 0#3 (fun t => t.advance) s

/-- `sample.lg` (40_sampler.md R103). -/
def execSampleLg (s : State) : Result := samplePhase .lowGain 1#3 (fun t => t.advance) s

/-- `sample.hg`: the insert uses the old cursor, then the cursor advances (40_sampler.md R104). -/
def execSampleHg (s : State) : Result := samplePhase .highGain 2#3 (fun t => t.advanceCursor.advance) s

end Sys2Proof.Machine
end

