-- ==== Sys2Proof/Syntax.lean ====
section
/-! DEFINITION. The instructions, one constructor per row of spec/opcode_table.json, and the code words of the two formats. -/

namespace Sys2Proof

/-- The ten operations of 30_encoding.md R84 and R85. The eight phases have no operand field; a SAMPLE phase takes its code from the converter's port (R83). -/
inductive Instr where
  /-- `sample.sh`, phase 0: acquire the shunt channel (40_sampler.md R102). -/
  | sampleSh
  /-- `sample.lg`, phase 1: acquire the low-gain channel (40_sampler.md R103). -/
  | sampleLg
  /-- `sample.hg`, phase 2: acquire the high-gain channel and advance the cursor (40_sampler.md R104). -/
  | sampleHg
  /-- `derive`, phase 3 (41_deriver.md R121). -/
  | derive
  /-- `protect`, phase 4 (43_protection.md R160). -/
  | protect
  /-- `mode`, phase 5 (44_mode.md R174). -/
  | mode
  /-- `regulate`, phase 6 (42_regulator.md R140). -/
  | regulate
  /-- `handoff`, phase 7 (45_handoff_and_host.md R200). -/
  | handoff
  /-- `rd`: host READ of the word at `addr`; the word's DATA is ignored (45_handoff_and_host.md R202; log 16). -/
  | rd (addr : BitVec 4)
  /-- `wr`: host WRITE of `data` to the word at `addr` (45_handoff_and_host.md R203). -/
  | wr (addr : BitVec 4) (data : Word)
deriving DecidableEq, Repr

/-- A code word. The two formats arrive on different paths, PHASE and the host bus, so the path is part of the word (30_encoding.md R80). -/
inductive CodeWord where
  /-- Format P, 3 bits, always the PHASE register. -/
  | p (ppp : PhaseWord)
  /-- Format H, 37 bits, presented by the host. -/
  | h (word : HostWord)
deriving DecidableEq, Repr

/-- Why a list of bytes is no code word (log 12). -/
inductive DecodeError where
  /-- Neither one byte (Format P) nor five bytes (Format H). -/
  | wrongLength
  /-- One byte with a bit above bit 2 set: no 3-bit word. -/
  | phasePaddingSet
  /-- Five bytes with a bit above bit 36 set: no 37-bit word. -/
  | hostPaddingSet
deriving DecidableEq, Repr

end Sys2Proof
end

