-- ==== Sys2Proof/Machine/Dispatch.lean ====
section
/-! DEFINITION. Each instruction and its meaning, one arm a line. -/

namespace Sys2Proof.Machine

/-- The meaning of an instruction in a state. -/
def exec (i : Instr) (s : State) : Host.Outcome State Fault Refusal :=
  match i with
  | .sampleSh => Sys2Proof.Machine.execSampleSh s
  | .sampleLg => Sys2Proof.Machine.execSampleLg s
  | .sampleHg => Sys2Proof.Machine.execSampleHg s
  | .derive => Sys2Proof.Machine.execDerive s
  | .protect => Sys2Proof.Machine.execProtect s
  | .mode => Sys2Proof.Machine.execMode s
  | .regulate => Sys2Proof.Machine.execRegulate s
  | .handoff => Sys2Proof.Machine.execHandoff s
  | .rd addr => Sys2Proof.Machine.execRd addr s
  | .wr addr data => Sys2Proof.Machine.execWr addr data s

end Sys2Proof.Machine
end

