-- ==== Sys2Proof/WellFormed.lean ====
section
/-! DEFINITION. Which instructions and which byte lists are well formed. -/

namespace Sys2Proof

/-- Every instruction is well formed: the fields are as wide as their encodings and no value of a field is illegal (30_encoding.md R86: "The block has no illegal encodings"). -/
def Instr.wellFormed : Instr → Bool
  | .sampleSh => true
  | .sampleLg => true
  | .sampleHg => true
  | .derive => true
  | .protect => true
  | .mode => true
  | .regulate => true
  | .handoff => true
  | .rd _ => true
  | .wr _ _ => true

/-- The byte lists that are a code word: one byte holding 3 bits, or five bytes holding 37 bits (30_encoding.md R80). The byte layout is the model's. DESIGN CHOICE, log 12. -/
def bytesWellFormed : List Byte → Bool
  | [b] => decide (b.toNat < 8)
  | [_, _, _, _, b4] => decide (b4.toNat < 32)
  | _ => false

end Sys2Proof
end

