-- ==== Sys2Proof/Decode.lean ====
section
/-! DEFINITION. The decoder and, after it, the encoder, both from the tables of 30_encoding.md R81, R82, R84 and R85. -/

namespace Sys2Proof

/-- The phase program (30_encoding.md R84): all eight codes are assigned. -/
def decodePhase (ppp : PhaseWord) : Instr :=
  match ppp.toNat with
  | 0 => .sampleSh
  | 1 => .sampleLg
  | 2 => .sampleHg
  | 3 => .derive
  | 4 => .protect
  | 5 => .mode
  | 6 => .regulate
  | _ => .handoff

/-- WE, bit 36 of a Format H word (30_encoding.md R82). -/
def hostWe (w : HostWord) : Bool := w.getLsbD 36

/-- ADDR, bits 35..32 of a Format H word: an unsigned index, not scaled (30_encoding.md R82, R83). -/
def hostAddr (w : HostWord) : BitVec 4 := w.extractLsb' 32 4

/-- DATA, bits 31..0 of a Format H word, taken as raw bits (30_encoding.md R82, R83). -/
def hostData (w : HostWord) : Word := w.extractLsb' 0 32

/-- The host transaction map (30_encoding.md R85, R87): total, WE alone selects the operation. -/
def decodeHost (w : HostWord) : Instr :=
  if hostWe w then .wr (hostAddr w) (hostData w) else .rd (hostAddr w)

/-- Decoding is total on both paths (30_encoding.md R87). -/
def decodeWord : CodeWord → Instr
  | .p ppp => decodePhase ppp
  | .h w => decodeHost w

/-- The five bytes of a Format H word as one 40-bit value, first byte least significant (20_memory.md R62; log 12). -/
def joinBytes (b0 b1 b2 b3 b4 : Byte) : BitVec 40 := b4 ++ b3 ++ b2 ++ b1 ++ b0

/-- A code word from its bytes: one byte is a Format P word, five are a Format H word; any other list is rejected by name. DESIGN CHOICE, log 12. -/
def bytesToWord : List Byte → Except DecodeError CodeWord
  | [b] => if b.toNat < 8 then .ok (.p (b.setWidth 3)) else .error .phasePaddingSet
  | [b0, b1, b2, b3, b4] =>
    if b4.toNat < 32 then .ok (.h ((joinBytes b0 b1 b2 b3 b4).setWidth 37)) else .error .hostPaddingSet
  | _ => .error .wrongLength

/-- The decoder on bytes. -/
def decodeBytes (bs : List Byte) : Except DecodeError Instr :=
  match bytesToWord bs with
  | .ok w => .ok (decodeWord w)
  | .error e => .error e

/-- The bytes of a table word: `n` bytes of `w`, least significant first. -/
def leBytes : Nat → Nat → List Byte
  | 0, _ => []
  | n + 1, w => BitVec.ofNat 8 w :: leBytes n (w / 256)

/-- The instruction the decoder reads from a word of spec/opcode_table.json: a Format P row is 3 bits, in one byte; a Format H row is 37 bits, in five. -/
def decodeTableWord (nbits w : Nat) : Option Instr :=
  match decodeBytes (leBytes ((nbits + 7) / 8) w) with
  | .ok i => some i
  | .error _ => none

/-- A Format H word from its fields (30_encoding.md R82). -/
def hostWord (we : BitVec 1) (addr : BitVec 4) (data : Word) : HostWord := we ++ addr ++ data

/-- The encoder (30_encoding.md R84, R85); `rd` fills DATA with 0 (R89). -/
def encode : Instr → CodeWord
  | .sampleSh => .p 0#3
  | .sampleLg => .p 1#3
  | .sampleHg => .p 2#3
  | .derive => .p 3#3
  | .protect => .p 4#3
  | .mode => .p 5#3
  | .regulate => .p 6#3
  | .handoff => .p 7#3
  | .rd a => .h (hostWord 0#1 a 0#32)
  | .wr a d => .h (hostWord 1#1 a d)

/-- The bytes of a code word (log 12). -/
def wordToBytes : CodeWord → List Byte
  | .p ppp => leBytes 1 ppp.toNat
  | .h w => leBytes 5 w.toNat

/-- The encoder on bytes. -/
def encodeBytes (i : Instr) : List Byte := wordToBytes (encode i)

end Sys2Proof
end

