-- ==== Sys2Proof/Machine/Fetch.lean ====
section
/-! DEFINITION. Which code word a step runs, what a turn without one does, and how a test places a word. -/

namespace Sys2Proof.Machine

/-- The code word of this step: the host's word in the host's turn, PHASE in SEQ's turn (30_encoding.md R80). A press and the reset pin have no encoding (R89), and SEQ executes nothing while `rst` is asserted (70_reset_and_hazards.md R250). -/
def State.fetch (s : State) : Option CodeWord :=
  match s.turn with
  | .seq _ _ => if s.rst then none else some (.p s.phase)
  | .host w => some (.h w)
  | .pressA => none
  | .pressB => none
  | .rstAssert => none
  | .rstRelease => none

/-- A turn that runs no code word: a press, the reset pin, or SEQ's turn while `rst` is asserted, in which a delivery or an acknowledge is ignored (44_mode.md R173, 70_reset_and_hazards.md R250). -/
def State.bareTurn (s : State) : State :=
  match s.turn with
  | .seq _ _ => s
  | .host _ => s
  | .pressA => s.pressA
  | .pressB => s.pressB
  | .rstAssert => s.assertReset
  | .rstRelease => s.releaseReset

/-- The turn in which a phase's handshake, if it has one, is answered: code 0 for a SAMPLE, `disp_ack` for HANDOFF. Log 13. -/
def answeringTurn (ppp : PhaseWord) : Turn :=
  if ppp.toNat ≤ 2 then .seq (some 0#10) false else if ppp.toNat = 7 then .seq none true else .seq none false

/-- Put a code word where the next step fetches it: a Format P word in PHASE with its handshake answered, a Format H word in the host's turn. Log 13. -/
def State.placeWord (s : State) (nbits w : Nat) : State :=
  if nbits ≤ 8 then
    { s with rst := false, phase := BitVec.ofNat 3 w, env := answeringTurn (BitVec.ofNat 3 w) :: s.env }
  else
    { s with rst := false, env := .host (BitVec.ofNat 37 w) :: s.env }

end Sys2Proof.Machine
end

