-- ==== Sys2Proof/Machine/Step.lean ====
section
/-! DEFINITION. One atomic step of the run (20_memory.md R65): a turn runs its code word, or is a press or the reset pin; the turn is then taken. -/

namespace Sys2Proof.Machine

/-- The step, the configuration admitted. -/
def takeTurn (s : State) : Host.Outcome State Fault Refusal :=
  match s.fetch with
  | some w => thenNext State.dropTurn (exec (decodeWord w) s)
  | none => .next s.bareTurn.dropTurn

/-- One step. A configuration that fails CFG_WF is refused before anything else (00_scope.md R6; log 14). -/
def step (s : State) : Host.Outcome State Fault Refusal :=
  if admitted s.cfg then takeTurn s.settle else .refused .refuseCfg

/-- The state in which the very next step runs the code word `w` of the table (log 13). -/
def State.withFetchWord (s : State) (nbits w : Nat) : State := s.placeWord nbits w

end Sys2Proof.Machine
end

