-- ==== Sys2Proof/Machine/Ports.lean ====
section
/-! DEFINITION. What can be seen from outside: the output ports (10_state.md R42), the holds (60_exceptions.md R221) and the values the display adapter reads (45_handoff_and_host.md R201). -/

namespace Sys2Proof.Machine

/-- The two holds (60_exceptions.md R221, O1 and O2). A hold is no stop: SEQ waits, and every other turn is still taken. -/
inductive Hold where
  /-- STUCK_ADC: a SAMPLE phase without a delivery. -/
  | stuckAdc
  /-- STUCK_DISPLAY: HANDOFF without `disp_ack`. -/
  | stuckDisplay
deriving DecidableEq, Repr

/-- `adc_req`: a conversion is requested (10_state.md R42); while `rst` is asserted the request is dropped (70_reset_and_hazards.md R250; log 19). -/
def State.adcReq (s : State) : Bool := !s.rst && decide (s.phase.toNat ≤ 2)

/-- `adc_ch`, PHASE[1:0], meaningful while `adc_req` (10_state.md R42). -/
def State.adcCh (s : State) : BitVec 2 := s.phase.extractLsb' 0 2

/-- `frame_valid`: the hand-off is offered (10_state.md R42; log 19). -/
def State.frameValid (s : State) : Bool := !s.rst && decide (s.phase = 7#3)

/-- `duty_out`, the PWM compare value, whole (42_regulator.md R142, R143). -/
def State.dutyOut (s : State) : DutyWord := s.duty

/-- `fan_en` (10_state.md R42). -/
def State.fanEn (s : State) : Bool := s.fan

/-- `led` (10_state.md R42; during reset log 20). -/
def State.ledOut (s : State) : Bool := s.led

/-- The hold SEQ is in when this turn is taken: its handshake is not answered (60_exceptions.md R221). -/
def State.hold (s : State) : Option Hold :=
  if s.adcReq && s.adcPort.isNone then some .stuckAdc
  else if s.frameValid && !s.dispAck then some .stuckDisplay
  else none

/-- The values the adapter reads while `frame_valid` (45_handoff_and_host.md R201): the telemetry fields in the source's order, then what the display also uses. -/
structure Frame where
  /-- `mode`. -/
  mode : Mode
  /-- `volts`. -/
  volts : Int
  /-- `amps`. -/
  amps : Int
  /-- `watts`. -/
  watts : Int
  /-- `targetCurrent`. -/
  targetCurrent : Int
  /-- `lowVoltageCutoff`. -/
  lowVoltageCutoff : Int
  /-- `dutyCycle`. -/
  dutyCycle : Nat
  /-- DISP_MODE. -/
  dispMode : DispMode
  /-- HG. -/
  highGain : Bool
deriving DecidableEq, Repr

/-- The frame of a completed cycle (45_handoff_and_host.md R201). -/
def State.frame (s : State) : Option Frame :=
  if s.frameValid then
    some { mode := s.mode, volts := s.voltage.toInt, amps := s.current.toInt, watts := s.power.toInt,
           targetCurrent := s.target.toInt, lowVoltageCutoff := s.lvcut.toInt, dutyCycle := s.duty.toNat,
           dispMode := s.dispMode, highGain := s.highGain }
  else none

end Sys2Proof.Machine
end

