-- ==== Sys2Proof/Machine/Trace.lean ====
section
/-! DEFINITION. The trace syntax of 30_encoding.md R89 and the pseudo-instructions of R90, as lists of turns. -/

namespace Sys2Proof.Machine

/-- `acquire #s, #l, #h`: the three SAMPLE steps, each with its delivery (30_encoding.md R90). -/
def acquireTurns (sh lg hg : RawSample) : List Turn :=
  [.seq (some sh) false, .seq (some lg) false, .seq (some hg) false]

/-- `cycle #s, #l, #h`: the eight phases, the last with its acknowledge (30_encoding.md R90). -/
def cycleTurns (sh lg hg : RawSample) : List Turn :=
  acquireTurns sh lg hg ++ [.seq none false, .seq none false, .seq none false, .seq none false, .seq none true]

/-- `cycles K, #s, #l, #h` (30_encoding.md R90). -/
def cyclesTurns : Nat → RawSample → RawSample → RawSample → List Turn
  | 0, _, _, _ => []
  | k + 1, sh, lg, hg => cycleTurns sh lg hg ++ cyclesTurns k sh lg hg

/-- One `cycle` after another, with the codes of each (40_sampler.md R106). -/
def codesTurns : List (RawSample × RawSample × RawSample) → List Turn
  | [] => []
  | (sh, lg, hg) :: rest => cycleTurns sh lg hg ++ codesTurns rest

/-- `reset`: the pin is asserted and released (30_encoding.md R89; log 6). -/
def resetTurns : List Turn := [.rstAssert, .rstRelease]

/-- `rd REG`: the host's READ with DATA 0 (30_encoding.md R89). -/
def rdTurn (addr : BitVec 4) : Turn := .host (hostWord 0#1 addr 0#32)

/-- `wr REG, #v`: the host's WRITE of `v mod 2^32` (30_encoding.md R89). -/
def wrTurn (addr : BitVec 4) (v : Int) : Turn := .host (hostWord 1#1 addr (BitVec.ofInt 32 v))

/-- The register names' addresses (10_state.md R40, 30_encoding.md R89). -/
abbrev Addr.status : BitVec 4 := 0x0#4
/-- TARGET. -/
abbrev Addr.target : BitVec 4 := 0x1#4
/-- LVCUT. -/
abbrev Addr.lvcut : BitVec 4 := 0x2#4
/-- DUTY. -/
abbrev Addr.duty : BitVec 4 := 0x3#4
/-- CURRENT. -/
abbrev Addr.current : BitVec 4 := 0x4#4
/-- VOLTAGE. -/
abbrev Addr.voltage : BitVec 4 := 0x5#4
/-- POWER. -/
abbrev Addr.power : BitVec 4 := 0x6#4
/-- CURSOR. -/
abbrev Addr.cursor : BitVec 4 := 0x7#4
/-- ACC_SH. -/
abbrev Addr.accSh : BitVec 4 := 0x8#4
/-- ACC_LG. -/
abbrev Addr.accLg : BitVec 4 := 0x9#4
/-- ACC_HG. -/
abbrev Addr.accHg : BitVec 4 := 0xA#4

end Sys2Proof.Machine
end

