-- ==== Sys2Proof/Safety.lean ====
section
/-! DEFINITION. What the statements call a good state, in the spec's own terms. -/

namespace Sys2Proof.Safety

open Sys2Proof.Machine

/-- The sum of a ring's cells. -/
def ringSum (r : Ring) : Nat := (r.toList.map BitVec.toNat).sum

/-- 10_state.md R45 (b) for one channel: the accumulator is the sum of its ring. -/
abbrev AccIsSum (s : State) (ch : Channel) : Prop := (s.acc ch).toNat = ringSum (s.ring ch)

/-- The invariants (a) to (f) of 10_state.md R45. -/
structure BlockInv (s : State) : Prop where
  /-- (a). -/
  cursor : s.cursor.toNat < 12
  /-- (b). -/
  sums : AccIsSum s .shunt ∧ AccIsSum s .lowGain ∧ AccIsSum s .highGain
  /-- (c). -/
  duty : 300 ≤ s.duty.toNat ∧ s.duty.toNat ≤ 1025
  /-- (d). -/
  notSet : s.mode ≠ .set
  /-- (e). -/
  offDuty : s.mode = .off ∨ s.mode = .lvc → s.duty = 1025#16
  /-- (f). -/
  led : s.led = true

/-- The accumulators are in the range of 10_state.md R25. -/
abbrev AccInRange (s : State) : Prop :=
  s.accShunt.toNat ≤ 12276 ∧ s.accLowGain.toNat ≤ 12276 ∧ s.accHighGain.toNat ≤ 12276

/-- This turn does not touch the reset pin and the pin is not asserted. -/
abbrev OutOfReset (s : State) : Prop := s.rst = false ∧ s.turn ≠ .rstAssert

/-- `n` REGULATE steps with nothing between them that changes what REGULATE reads (70_reset_and_hazards.md R261): PHASE is put back before each. -/
def regulateTimes : Nat → State → Host.Outcome State Fault Refusal
  | 0, s => .next s
  | n + 1, s =>
    match exec .regulate { s with phase := 6#3 } with
    | .next t => regulateTimes n t
    | .fault r => .fault r
    | .refused r => .refused r

/-- `n` steps of the machine, stopping at the first stop. -/
def runSteps : Nat → State → Host.Outcome State Fault Refusal
  | 0, s => .next s
  | n + 1, s =>
    match step s with
    | .next t => runSteps n t
    | .fault r => .fault r
    | .refused r => .refused r

/-- SEQ's turn with nothing on its input ports. -/
abbrev quietTurn : Turn := .seq none false

/-- The voltage a DERIVE would report from these accumulators, in exact integers (41_deriver.md R121, R123). -/
def reportedVoltage (s : State) : Int :=
  if ((s.accLowGain.toNat / 12 : Nat) : Int) * s.cfg.kLg ≤ 6000 then
    Int.tdiv (((s.accHighGain.toNat / 12 : Nat) : Int) * s.cfg.kHg) 10 - s.cfg.offHg
  else ((s.accLowGain.toNat / 12 : Nat) : Int) * s.cfg.kLg

/-- The last 12 of the codes inserted so far, given newest first, summed (40_sampler.md R106). -/
def lastTwelve (newestFirst : List RawSample) : Nat := ((newestFirst.take 12).map BitVec.toNat).sum

end Sys2Proof.Safety
end

