-- ==== Sys2Proof/Certificates/Slice0/Obligations.lean ====
section
/-! DEFINITION. The statements for the provers, each from the spec's numbered rules. -/

open Sys2Proof Sys2Proof.Machine Sys2Proof.Safety

/-! Encoding. -/

/-- The words of 95_test_vectors.md 2.7 and H10, and every phase code, decode to what the spec writes beside them. -/
def Obligations.WordsWrittenFromTheSpecDecode : Prop :=
  decodeWord (.p 0b000#3) = .sampleSh ∧ decodeWord (.p 0b001#3) = .sampleLg ∧
  decodeWord (.p 0b010#3) = .sampleHg ∧ decodeWord (.p 0b011#3) = .derive ∧
  decodeWord (.p 0b100#3) = .protect ∧ decodeWord (.p 0b101#3) = .mode ∧
  decodeWord (.p 0b110#3) = .regulate ∧ decodeWord (.p 0b111#3) = .handoff ∧
  decodeWord (.h 0x0000000000#37) = .rd 0x0#4 ∧
  decodeWord (.h 0x11000005DC#37) = .wr 0x1#4 1500#32 ∧
  decodeWord (.h 0x12000007D0#37) = .wr 0x2#4 2000#32 ∧
  decodeWord (.h 0x0300000000#37) = .rd 0x3#4 ∧
  decodeWord (.h 0x1FFFFFFFFF#37) = .wr 0xF#4 0xFFFFFFFF#32

/-- 30_encoding.md R87: every 3-bit value is its phase of R84; every 37-bit value is `rd ADDR` or `wr ADDR, DATA` by bit 36. -/
def Obligations.EveryWordOfBothFormatsDecodes : Prop :=
  (∀ ppp : PhaseWord,
    [Instr.sampleSh, .sampleLg, .sampleHg, .derive, .protect, .mode, .regulate, .handoff][ppp.toNat]?
      = some (decodeWord (.p ppp))) ∧
  (∀ w : HostWord, w.getLsbD 36 = false → decodeWord (.h w) = .rd (w.extractLsb' 32 4)) ∧
  (∀ w : HostWord, w.getLsbD 36 = true → decodeWord (.h w) = .wr (w.extractLsb' 32 4) (w.extractLsb' 0 32))

/-- Decoding an encoded well-formed instruction gives it back, as a word and as bytes (the byte layout is the model's choice, log 12). -/
def Obligations.DecodeUndoesEncode : Prop :=
  ∀ i : Instr, i.wellFormed = true → decodeWord (encode i) = i ∧ decodeBytes (encodeBytes i) = .ok i

/-- Encoding a decoded word gives it back, but for the DATA bits of a READ, which are ignored and encoded as 0 (30_encoding.md R82, R86, R89). -/
def Obligations.EncodeUndoesDecode : Prop :=
  (∀ ppp : PhaseWord, encode (decodeWord (.p ppp)) = .p ppp) ∧
  (∀ w : HostWord, w.getLsbD 36 = true → encode (decodeWord (.h w)) = .h w) ∧
  (∀ w : HostWord, w.getLsbD 36 = false → encode (decodeWord (.h w)) = .h ((w >>> 32) <<< 32))

/-- A byte list decodes exactly when it is one byte below 8 or five bytes with the last below 32. The model's choice of byte layout, log 12; the widths are 30_encoding.md R80's. -/
def Obligations.BytesDecodeExactlyWhenWellFormed : Prop :=
  ∀ bs : List Byte,
    (∃ i, decodeBytes bs = .ok i) ↔
      (∃ b, bs = [b] ∧ b.toNat < 8) ∨ (∃ b0 b1 b2 b3 b4, bs = [b0, b1, b2, b3, b4] ∧ b4.toNat < 32)

/-! The step. -/

/-- Out of reset, SEQ's turn runs the instruction PHASE decodes to, and the host's turn runs the instruction its word decodes to; then the turn is taken and nothing else (20_memory.md R65; the turn list is the model's, log 3). -/
def Obligations.StepRunsTheDecodedWord : Prop :=
  ∀ s : State, admitted s.cfg = true → s.rst = false →
    (∀ adc ack, s.turn = .seq adc ack →
      step s = thenNext (fun u => { u with env := u.env.tail }) (exec (decodeWord (.p s.phase)) s)) ∧
    (∀ w, s.turn = .host w →
      step s = thenNext (fun u => { u with env := u.env.tail }) (exec (decodeWord (.h w)) s))

/-- 44_mode.md R173: a press sets its latch and nothing else, in any phase and hold, and a second press before the MODE phase changes nothing more. The turn list is the model's, log 3. -/
def Obligations.APressSetsItsLatch : Prop :=
  ∀ s : State, admitted s.cfg = true → s.rst = false →
    (s.turn = .pressA → step s = .next { s with pendA := true, env := s.env.tail }) ∧
    (s.turn = .pressB → step s = .next { s with pendB := true, env := s.env.tail }) ∧
    (∀ rest, s.env = .pressA :: .pressA :: rest → runSteps 2 s = .next { s with pendA := true, env := rest }) ∧
    (∀ rest, s.env = .pressB :: .pressB :: rest → runSteps 2 s = .next { s with pendB := true, env := rest })

/-- 00_scope.md R6: the machine refuses with REFUSE_CFG exactly the configurations that fail CFG_WF, and the closed-form check is sufficient for CFG_WF. -/
def Obligations.RefusedExactlyWhenCfgWfFails : Prop :=
  (∀ s : State, step s = .refused .refuseCfg ↔ ¬ CfgWf s.cfg) ∧ (∀ c : Config, closedFormCheck c → CfgWf c)

/-- The check the step evaluates, at the end points of the means, is CFG_WF over all means and pairs of means (log 14). -/
def Obligations.EndPointCheckIsCfgWf : Prop :=
  ∀ c : Config, admitted c = true ↔ CfgWf c

/-- A phase's instruction executed where PHASE does not select it, or while reset is asserted, leaves the state as it is. The model's choice, log 10, from "enabled only when PHASE == k" of each phase rule. -/
def Obligations.APhaseOutOfItsTurnChangesNothing : Prop :=
  ∀ (i : Instr) (k : PhaseWord) (s : State), encode i = .p k → s.rst = true ∨ s.phase ≠ k → exec i s = .next s

/-! The SAMPLE phases. -/

/-- 40_sampler.md R102: with a delivery, `sample.sh` replaces the cursor's cell of ring 0 and corrects ACC[0] by exactly the difference, then PHASE is 1 and nothing else changes; without one it holds (R101); with one, a CURSOR of 12 or more faults. That a hold is a next state in which SEQ has not moved is log 11; that a CURSOR of 12 or more faults with a delivery and only then is 10_state.md R24 and 20_memory.md R61, read by log 7. -/
def Obligations.SampleShInsertsTheDeliveredCode : Prop :=
  ∀ s : State, s.rst = false → s.phase = 0#3 →
    (s.adcPort = none → exec .sampleSh s = .next s) ∧
    (∀ c, s.adcPort = some c → 12 ≤ s.cursor.toNat → exec .sampleSh s = .fault .faultState) ∧
    (∀ c, s.adcPort = some c → s.cursor.toNat < 12 → AccIsSum s .shunt →
      ∃ t old, exec .sampleSh s = .next t ∧ s.histRead .shunt s.cursor.toNat = .ok old ∧
        (∀ i, t.histRead .shunt i = if i = s.cursor.toNat then .ok c else s.histRead .shunt i) ∧
        (t.accShunt.toNat : Int) = (s.accShunt.toNat : Int) - (old.toNat : Int) + (c.toNat : Int) ∧
        t.accShunt.toNat ≤ 12276 ∧
        t = { s with histShunt := t.histShunt, accShunt := t.accShunt, phase := 1#3 })

/-- 40_sampler.md R103: the same for `sample.lg`, ring 1, ACC[1] and PHASE 2, with the hold of R101. That a hold is a next state in which SEQ has not moved is log 11; that a CURSOR of 12 or more faults with a delivery and only then is 10_state.md R24 and 20_memory.md R61, read by log 7. -/
def Obligations.SampleLgInsertsTheDeliveredCode : Prop :=
  ∀ s : State, s.rst = false → s.phase = 1#3 →
    (s.adcPort = none → exec .sampleLg s = .next s) ∧
    (∀ c, s.adcPort = some c → 12 ≤ s.cursor.toNat → exec .sampleLg s = .fault .faultState) ∧
    (∀ c, s.adcPort = some c → s.cursor.toNat < 12 → AccIsSum s .lowGain →
      ∃ t old, exec .sampleLg s = .next t ∧ s.histRead .lowGain s.cursor.toNat = .ok old ∧
        (∀ i, t.histRead .lowGain i = if i = s.cursor.toNat then .ok c else s.histRead .lowGain i) ∧
        (t.accLowGain.toNat : Int) = (s.accLowGain.toNat : Int) - (old.toNat : Int) + (c.toNat : Int) ∧
        t.accLowGain.toNat ≤ 12276 ∧
        t = { s with histLowGain := t.histLowGain, accLowGain := t.accLowGain, phase := 2#3 })

/-- 40_sampler.md R104: the same for `sample.hg`, ring 2, ACC[2] and PHASE 3; the insert uses the old CURSOR, which then advances modulo 12; the hold is R101's. That a hold is a next state in which SEQ has not moved is log 11; that a CURSOR of 12 or more faults with a delivery and only then is 10_state.md R24 and 20_memory.md R61, read by log 7. -/
def Obligations.SampleHgInsertsAndAdvancesTheCursor : Prop :=
  ∀ s : State, s.rst = false → s.phase = 2#3 →
    (s.adcPort = none → exec .sampleHg s = .next s) ∧
    (∀ c, s.adcPort = some c → 12 ≤ s.cursor.toNat → exec .sampleHg s = .fault .faultState) ∧
    (∀ c, s.adcPort = some c → s.cursor.toNat < 12 → AccIsSum s .highGain →
      ∃ t old, exec .sampleHg s = .next t ∧ s.histRead .highGain s.cursor.toNat = .ok old ∧
        (∀ i, t.histRead .highGain i = if i = s.cursor.toNat then .ok c else s.histRead .highGain i) ∧
        (t.accHighGain.toNat : Int) = (s.accHighGain.toNat : Int) - (old.toNat : Int) + (c.toNat : Int) ∧
        t.accHighGain.toNat ≤ 12276 ∧
        t.cursor.toNat = (s.cursor.toNat + 1) % 12 ∧
        t = { s with histHighGain := t.histHighGain, accHighGain := t.accHighGain, cursor := t.cursor, phase := 3#3 })

/-- 40_sampler.md R100: SampleInsert replaces one cell, changes ACC by exactly the difference, keeps ACC the sum of its ring in 0..12276, and leaves CURSOR and the other channels. -/
def Obligations.SampleInsertKeepsTheRunningSum : Prop :=
  ∀ (s : State) (ch : Channel) (v : RawSample), s.cursor.toNat < 12 → AccIsSum s ch →
    ∃ t old, s.sampleInsert ch v = .ok t ∧ s.histRead ch s.cursor.toNat = .ok old ∧
      (∀ d i, t.histRead d i = if d = ch ∧ i = s.cursor.toNat then .ok v else s.histRead d i) ∧
      ((t.acc ch).toNat : Int) = ((s.acc ch).toNat : Int) - (old.toNat : Int) + (v.toNat : Int) ∧
      AccIsSum t ch ∧ (t.acc ch).toNat ≤ 12276 ∧ t.cursor = s.cursor ∧ (∀ d, d ≠ ch → t.acc d = s.acc d)

/-- 41_deriver.md R120: the mean is the accumulator divided by 12, truncated, and lies in 0..1023 where the accumulator is its ring's sum. -/
def Obligations.MeanIsATwelfthOfTheSum : Prop :=
  ∀ (s : State) (ch : Channel), mean (s.acc ch) = (s.acc ch).toNat / 12 ∧ (AccIsSum s ch → mean (s.acc ch) ≤ 1023)

/-! The DERIVE phase. -/

/-- 41_deriver.md R121: the measurement in exact integers, the gain selection at 6000 inclusive, the power from the voltage just selected, and nothing else changed but PHASE. That `derive` itself refuses, by the check at the end points of the means, a configuration that fails CFG_WF is log 14 (R121 refuses before any step), and the rounding of a negative quotient toward zero is log 17. -/
def Obligations.DeriveComputesTheMeasurement : Prop :=
  ∀ s : State, s.rst = false → s.phase = 3#3 →
    (admitted s.cfg = false → exec .derive s = .refused .refuseCfg) ∧
    (admitted s.cfg = true → AccInRange s →
      ∃ t, exec .derive s = .next t ∧
        t.current.toInt = Int.tdiv (((s.accShunt.toNat / 12 : Nat) : Int) * s.cfg.kShunt) s.cfg.dShunt ∧
        (if ((s.accLowGain.toNat / 12 : Nat) : Int) * s.cfg.kLg ≤ 6000 then
          t.highGain = true ∧
            t.voltage.toInt = Int.tdiv (((s.accHighGain.toNat / 12 : Nat) : Int) * s.cfg.kHg) 10 - s.cfg.offHg
        else t.highGain = false ∧ t.voltage.toInt = ((s.accLowGain.toNat / 12 : Nat) : Int) * s.cfg.kLg) ∧
        t.power.toInt = Int.tdiv (t.current.toInt * t.voltage.toInt) 1000 ∧
        t = { s with current := t.current, voltage := t.voltage, power := t.power, highGain := t.highGain, phase := 4#3 })

/-- 41_deriver.md R125: two states with the same accumulators and configuration get the same measurement, whatever else they hold, and DERIVE writes only the measurement and PHASE. -/
def Obligations.DeriveReadsOnlyTheSumsAndTheConfiguration : Prop :=
  ∀ s u : State, s.rst = false → u.rst = false → s.phase = 3#3 → u.phase = 3#3 →
    admitted s.cfg = true → AccInRange s →
    u.cfg = s.cfg → u.accShunt = s.accShunt → u.accLowGain = s.accLowGain → u.accHighGain = s.accHighGain →
    ∃ t v, exec .derive s = .next t ∧ exec .derive u = .next v ∧
      v.current = t.current ∧ v.voltage = t.voltage ∧ v.power = t.power ∧ v.highGain = t.highGain ∧
      t = { s with current := t.current, voltage := t.voltage, power := t.power, highGain := t.highGain, phase := t.phase }

/-- 41_deriver.md R124: after DERIVE the current is never negative, and a high-gain figure below zero stands as that negative value, neither clamped nor wrapped. -/
def Obligations.CurrentIsNeverNegativeAndVoltageMayBe : Prop :=
  ∀ s : State, s.rst = false → s.phase = 3#3 → admitted s.cfg = true → AccInRange s →
    ∃ t, exec .derive s = .next t ∧ 0 ≤ t.current.toInt ∧
      (((s.accLowGain.toNat / 12 : Nat) : Int) * s.cfg.kLg ≤ 6000 →
        Int.tdiv (((s.accHighGain.toNat / 12 : Nat) : Int) * s.cfg.kHg) 10 < s.cfg.offHg →
        t.voltage.toInt < 0 ∧
          t.voltage.toInt = Int.tdiv (((s.accHighGain.toNat / 12 : Nat) : Int) * s.cfg.kHg) 10 - s.cfg.offHg ∧
          t.power.toInt ≤ 0)

/-! The PROTECT phase. -/

/-- 43_protection.md R160: FAN is set exactly when POWER is above 2500, in every mode, and nothing else changes but PHASE. -/
def Obligations.ProtectSetsTheFanAboveTheThreshold : Prop :=
  ∀ s : State, s.rst = false → s.phase = 4#3 →
    exec .protect s = .next { s with fan := decide (2500 < s.power.toInt), phase := 5#3 }

/-! The mode machine. -/

/-- 44_mode.md R170 and R171: the four legal transitions are applied, leaving ON forces DUTY to 1025, and each of the other twelve requests changes LAST_OK alone. -/
def Obligations.ChangeModeFollowsTheTransitionTable : Prop :=
  ∀ (s : State) (new : Mode),
    ((s.mode, new) ∈ [(Mode.off, Mode.on), (.on, .off), (.on, .lvc), (.lvc, .off)] →
      s.changeMode new =
        ({ s with duty := if s.mode = .on then 1025#16 else s.duty, mode := new, lastOk := true }, true)) ∧
    ((s.mode, new) ∉ [(Mode.off, Mode.on), (.on, .off), (.on, .lvc), (.lvc, .off)] →
      s.changeMode new = ({ s with lastOk := false }, false))

/-- 44_mode.md R174: button A first, then B on the mode A left; both latches are cleared; every other element but PHASE stays. -/
def Obligations.ModePhaseConsumesTheButtons : Prop :=
  ∀ s : State, s.rst = false → s.phase = 5#3 →
    ∃ t, exec .mode s = .next t ∧ t.pendA = false ∧ t.pendB = false ∧
      t.mode = (if s.pendA = true ∧ s.mode = .off then .on
        else if s.pendA = true ∧ s.mode = .on then .off
        else if s.pendB = true ∧ s.mode = .lvc then .off
        else s.mode) ∧
      t.duty = (if s.pendA = true ∧ s.mode = .on then 1025#16 else s.duty) ∧
      dispCode t.dispMode = (if s.pendB = true ∧ ((s.mode = .off ∧ s.pendA = false) ∨ (s.mode = .on ∧ s.pendA = true))
        then dispCode s.dispMode + 1#2 else dispCode s.dispMode) ∧
      t.lastOk = (if s.pendB = true ∧ s.mode = .lvc then true
        else if s.pendA = true then decide (s.mode = .off ∨ s.mode = .on)
        else s.lastOk) ∧
      t = { s with
            pendA := t.pendA, pendB := t.pendB, mode := t.mode, duty := t.duty, dispMode := t.dispMode,
            lastOk := t.lastOk, phase := 6#3 }

/-! The REGULATE phase. -/

/-- 42_regulator.md R140: in ON the low-voltage trip, else one step toward the target within the clamps, else nothing; outside ON nothing; PHASE is 7. -/
def Obligations.RegulateTripsOrSteps : Prop :=
  ∀ s : State, s.rst = false → s.phase = 6#3 →
    exec .regulate s = .next
      (if s.mode = .on then
        if s.voltage.toInt < s.lvcut.toInt then
          { s with duty := 1025#16, mode := .lvc, lastOk := true, phase := 7#3 }
        else if s.current.toInt < s.target.toInt ∧ 300 < s.duty.toNat then
          { s with duty := s.duty - 1#16, phase := 7#3 }
        else if s.target.toInt < s.current.toInt ∧ s.duty.toNat < 1000 then
          { s with duty := s.duty + 1#16, phase := 7#3 }
        else { s with phase := 7#3 }
      else { s with phase := 7#3 })

/-- 42_regulator.md R144 (a) to (c): from 300..1000 the duty stays there but for the trip, a step changes it by exactly one, and from 1001..1025 it moves only down by one or trips. -/
def Obligations.SteppingStaysWithinTheClamps : Prop :=
  ∀ s : State, s.rst = false → s.phase = 6#3 →
    ∃ t, exec .regulate s = .next t ∧
      (300 ≤ s.duty.toNat → s.duty.toNat ≤ 1000 →
        (300 ≤ t.duty.toNat ∧ t.duty.toNat ≤ 1000) ∨ (t.duty.toNat = 1025 ∧ s.mode = .on ∧ t.mode = .lvc)) ∧
      (t.mode = s.mode → t.duty.toNat = s.duty.toNat ∨ t.duty.toNat + 1 = s.duty.toNat ∨
        t.duty.toNat = s.duty.toNat + 1) ∧
      (1001 ≤ s.duty.toNat → s.duty.toNat ≤ 1025 → t.mode = s.mode →
        t.duty.toNat = s.duty.toNat ∨ t.duty.toNat + 1 = s.duty.toNat)

/-- 70_reset_and_hazards.md R261: entered with DUTY 1025 and CURRENT below TARGET, `n` REGULATE steps leave 1025 − n down to 300; with CURRENT at least TARGET the duty stays 1025. -/
def Obligations.SoftStartRampsFromTheSentinel : Prop :=
  ∀ (s : State) (n : Nat), s.rst = false → s.mode = .on → s.duty = 1025#16 → s.lvcut.toInt ≤ s.voltage.toInt →
    (s.current.toInt < s.target.toInt → n ≤ 725 →
      ∃ t, regulateTimes n s = .next t ∧ t.duty.toNat = 1025 - n ∧ t.mode = .on) ∧
    (s.target.toInt ≤ s.current.toInt → ∃ t, regulateTimes n s = .next t ∧ t.duty.toNat = 1025 ∧ t.mode = .on)

/-! HANDOFF and the host port. -/

/-- 45_handoff_and_host.md R200: with `disp_ack` PHASE becomes 0 and nothing else changes; without it SEQ holds, which is a next state in which SEQ has not moved (log 11). -/
def Obligations.HandoffWaitsForTheAcknowledge : Prop :=
  ∀ s : State, s.rst = false → s.phase = 7#3 →
    (s.dispAck = true → exec .handoff s = .next { s with phase := 0#3 }) ∧
    (s.dispAck = false → exec .handoff s = .next s)

/-- 45_handoff_and_host.md R202: the read data of each of the sixteen addresses; a read changes no state (the return path is the model's field, log 5). -/
def Obligations.ReadReturnsTheMappedWord : Prop :=
  ∀ (s : State) (a : BitVec 4), s.rst = false →
    exec (.rd a) s = .next { s with rdata :=
      ([s.status, s.target, s.lvcut, s.duty.setWidth 32, s.current, s.voltage, s.power, s.cursor.setWidth 32,
        s.accShunt.setWidth 32, s.accLowGain.setWidth 32, s.accHighGain.setWidth 32,
        0#32, 0#32, 0#32, 0#32, 0#32][a.toNat]?).getD 0#32 }

/-- 10_state.md R41: address 0 reads STATUS, each of its fields is the element it names, with the codes of R31 and R32, the bits above are 0, it reads 0x80 after reset, and a write to it changes nothing. -/
def Obligations.StatusFieldsAreTheNamedElements : Prop :=
  (∀ s : State,
    s.hostRead 0x0#4 = s.status ∧
    (s.status.extractLsb' 0 2).toNat = (match s.mode with | .off => 0 | .set => 1 | .on => 2 | .lvc => 3) ∧
    (s.status.extractLsb' 2 2).toNat =
      (match s.dispMode with | .volts => 0 | .amps => 1 | .amphours => 2 | .watts => 3) ∧
    s.status.getLsbD 4 = s.highGain ∧ s.status.getLsbD 5 = s.fan ∧ s.status.getLsbD 6 = decide (s.mode = .on) ∧
    s.status.getLsbD 7 = s.led ∧ s.status.getLsbD 8 = s.lastOk ∧ s.status.getLsbD 9 = s.pendA ∧
    s.status.getLsbD 10 = s.pendB ∧ s.status.extractLsb' 11 3 = s.phase ∧ s.status.extractLsb' 14 18 = 0#18 ∧
    (∀ d : Word, exec (.wr 0x0#4 d) s = .next s)) ∧
  (∀ c : Config, (State.resetOf c).status = 0x80#32)

/-- 45_handoff_and_host.md R203: a write reaches TARGET at 1 and LVCUT at 2, unchanged, and nothing at any other address. -/
def Obligations.WriteReachesOnlyTheSetpoints : Prop :=
  ∀ (s : State) (a : BitVec 4) (d : Word), s.rst = false →
    (a = 0x1#4 → exec (.wr a d) s = .next { s with target := d }) ∧
    (a = 0x2#4 → exec (.wr a d) s = .next { s with lvcut := d }) ∧
    (a ≠ 0x1#4 → a ≠ 0x2#4 → exec (.wr a d) s = .next s)

/-- 70_reset_and_hazards.md R250: while `rst` is asserted a READ returns 0 and a WRITE has no effect (the return path is the model's field, log 5). -/
def Obligations.HostTransactionsDuringReset : Prop :=
  ∀ (s : State) (a : BitVec 4) (d : Word), s.rst = true →
    exec (.rd a) s = .next { s with rdata := 0#32 } ∧ exec (.wr a d) s = .next s

/-- Any host transaction whatever, as a step: it answers, and it changes nothing but the setpoints, the return path and the turn list (60_exceptions.md R227, 45_handoff_and_host.md R204; the last two are the model's own fields, logs 5 and 3). -/
def Obligations.HostReachesNothingButTheSetpoints : Prop :=
  ∀ (s : State) (w : HostWord), admitted s.cfg = true → s.rst = false → s.turn = .host w →
    ∃ t, step s = .next t ∧
      t = { s with target := t.target, lvcut := t.lvcut, rdata := t.rdata, env := s.env.tail }

/-! Reset. -/

/-- 70_reset_and_hazards.md R250 and R251: the reset value of every element under every configuration; asserting `rst`, and every turn while it is asserted, leaves exactly these; its release starts SEQ at PHASE 0 with a conversion requested. The fields rst, env, cfg and freeUses are the model's (logs 1, 3, 6, 9), and so is the return path's 0 (log 5); that LED is 1 while `rst` is asserted is log 20. -/
def Obligations.ResetLoadsEveryElement : Prop :=
  (∀ c : Config,
    (State.resetOf c).phase = 0#3 ∧ (∀ ch i, i < 12 → (State.resetOf c).histRead ch i = .ok 0#10) ∧
    (State.resetOf c).cursor = 0#4 ∧ (∀ ch, (State.resetOf c).acc ch = 0#14) ∧
    (State.resetOf c).current = 0#32 ∧ (State.resetOf c).voltage = 0#32 ∧ (State.resetOf c).power = 0#32 ∧
    (State.resetOf c).highGain = false ∧ (State.resetOf c).duty = 1025#16 ∧ (State.resetOf c).mode = .off ∧
    (State.resetOf c).dispMode = .volts ∧ (State.resetOf c).lastOk = false ∧ (State.resetOf c).pendA = false ∧
    (State.resetOf c).pendB = false ∧ (State.resetOf c).target = c.pTargetReset ∧
    (State.resetOf c).lvcut = c.pLvcReset ∧ (State.resetOf c).fan = false ∧ (State.resetOf c).led = true ∧
    (State.resetOf c).loadEn = false) ∧
  (∀ s : State, admitted s.cfg = true →
    (s.turn = .rstAssert ∨ (s.rst = true ∧ s.turn ≠ .rstRelease) →
      step s = .next { State.resetOf s.cfg with rst := true, env := s.env.tail, freeUses := s.freeUses }) ∧
    (s.rst = true → s.turn = .rstRelease →
      ∃ t, step s = .next t ∧ t.adcReq = true ∧
        t = { State.resetOf s.cfg with rst := false, env := s.env.tail, freeUses := s.freeUses }))

/-! Rules of the whole machine: over every step, from every state. -/

/-- A step takes one turn and keeps the configuration (10_state.md R43, 20_memory.md R65; the two fields are the model's, logs 1 and 3). -/
def Obligations.AStepTakesOneTurnAndKeepsTheConfiguration : Prop :=
  ∀ s t : State, step s = .next t → t.env = s.env.tail ∧ t.cfg = s.cfg

/-- 10_state.md R22: out of reset a completed phase advances PHASE by one modulo 8, and a hold and every turn of the environment keep it; there is no other advance. -/
def Obligations.PhaseAdvancesByOneOrStays : Prop :=
  ∀ s t : State, OutOfReset s → step s = .next t →
    (∀ adc ack, s.turn = .seq adc ack → s.hold = none → t.phase.toNat = (s.phase.toNat + 1) % 8) ∧
    (∀ adc ack, s.turn = .seq adc ack → s.hold ≠ none → t.phase = s.phase) ∧
    ((∀ adc ack, s.turn ≠ .seq adc ack) → t.phase = s.phase)

/-- In a hold, SEQ's turn changes nothing, and any other turn out of reset changes at most the latches, the setpoints and the return path (40_sampler.md R101, 70_reset_and_hazards.md R254, 20_memory.md R67 (d)). That a hold is a next state, with the turn taken, is log 11; the turn list is log 3 and the return path log 5. -/
def Obligations.AHoldFreezesTheSequencer : Prop :=
  ∀ s : State, admitted s.cfg = true → OutOfReset s → s.hold ≠ none →
    ∃ t, step s = .next t ∧
      t = { s with
            pendA := t.pendA, pendB := t.pendB, target := t.target, lvcut := t.lvcut, rdata := t.rdata,
            env := s.env.tail } ∧
      (∀ adc ack, s.turn = .seq adc ack → t = { s with env := s.env.tail })

/-- Only SAMPLE steps with a delivery write the rings, their sums and the cursor (40_sampler.md R107). -/
def Obligations.OnlySampleStepsWriteTheRings : Prop :=
  ∀ s t : State, OutOfReset s → step s = .next t → 3 ≤ s.phase.toNat ∨ s.adcPort = none →
    t.histShunt = s.histShunt ∧ t.histLowGain = s.histLowGain ∧ t.histHighGain = s.histHighGain ∧
    t.accShunt = s.accShunt ∧ t.accLowGain = s.accLowGain ∧ t.accHighGain = s.accHighGain ∧ t.cursor = s.cursor

/-- Only the host writes the setpoints, only a press sets a latch, and only the MODE phase clears one (20_memory.md R66). -/
def Obligations.SetpointsAndLatchesHaveTheirWriters : Prop :=
  ∀ s t : State, OutOfReset s → step s = .next t →
    (t.target ≠ s.target → ∃ w, s.turn = .host w ∧ decodeWord (.h w) = .wr 0x1#4 t.target) ∧
    (t.lvcut ≠ s.lvcut → ∃ w, s.turn = .host w ∧ decodeWord (.h w) = .wr 0x2#4 t.lvcut) ∧
    (s.pendA = false → t.pendA = true → s.turn = .pressA) ∧
    (s.pendB = false → t.pendB = true → s.turn = .pressB) ∧
    (s.pendA = true → t.pendA = false → s.phase = 5#3 ∧ ∃ adc ack, s.turn = .seq adc ack) ∧
    (s.pendB = true → t.pendB = false → s.phase = 5#3 ∧ ∃ adc ack, s.turn = .seq adc ack)

/-- DISP_MODE changes only in SEQ's MODE phase with B pending, only in OFF as A left the mode (in OFF with no A pending, or in ON with A pending, which turns it OFF), and only to the next in the cycle; so never in LVC, whose acknowledge also ends in OFF (10_state.md R32, 44_mode.md R174, R176; the turn list is the model's, log 3). -/
def Obligations.DisplayCyclesOnlyWhileOff : Prop :=
  ∀ s t : State, OutOfReset s → step s = .next t → t.dispMode ≠ s.dispMode →
    (∃ adc ack, s.turn = .seq adc ack) ∧ s.phase = 5#3 ∧ s.pendB = true ∧
    ((s.mode = .off ∧ s.pendA = false) ∨ (s.mode = .on ∧ s.pendA = true)) ∧ t.mode = .off ∧
    (s.dispMode, t.dispMode) ∈
      [(DispMode.volts, DispMode.amps), (.amps, .amphours), (.amphours, .watts), (.watts, .volts)]

/-- Out of reset, a step changes MODE only by one of the four legal transitions, and only in the phases that may (44_mode.md R170, R172, R177 (c)). -/
def Obligations.EveryModeChangeIsInTheTable : Prop :=
  ∀ s t : State, OutOfReset s → step s = .next t → t.mode ≠ s.mode →
    ((s.mode, t.mode) ∈ [(Mode.off, Mode.on), (.on, .off), (.lvc, .off)] ∧ s.phase = 5#3) ∨
    ((s.mode, t.mode) = (Mode.on, Mode.lvc) ∧ s.phase = 6#3)

/-- A state in SET stays in SET, with the duty unchanged and the load gate off, until reset (44_mode.md R172). -/
def Obligations.SetModeIsAbsorbing : Prop :=
  ∀ s t : State, OutOfReset s → s.mode = .set → step s = .next t →
    t.mode = .set ∧ t.duty = s.duty ∧ t.loadEn = false

/-- LVC is left only by a pending B in the MODE phase, to OFF, whatever the voltage (44_mode.md R177 (b)). -/
def Obligations.OnlyTheAcknowledgeLeavesLvc : Prop :=
  ∀ s t : State, OutOfReset s → s.mode = .lvc → step s = .next t →
    (t.mode = .lvc ∧ t.duty = s.duty) ∨ (t.mode = .off ∧ t.duty = s.duty ∧ s.phase = 5#3 ∧ s.pendB = true)

/-- Any step that leaves ON, reset among them, forces the off sentinel and turns the load gate off in that step (44_mode.md R171, R175). -/
def Obligations.LeavingOnTurnsTheLoadOff : Prop :=
  ∀ s t : State, s.mode = .on → step s = .next t → t.mode ≠ .on → t.duty = 1025#16 ∧ t.loadEn = false

/-- Out of reset the duty moves by at most one, in REGULATE in ON, or is forced to 1025 by a transition out of ON (42_regulator.md R144 (d)). -/
def Obligations.DutyMovesByOneOrIsForcedOff : Prop :=
  ∀ s t : State, OutOfReset s → step s = .next t → t.duty ≠ s.duty →
    (t.duty = 1025#16 ∧ s.mode = .on ∧ t.mode ≠ .on) ∨
    (s.phase = 6#3 ∧ s.mode = .on ∧ t.mode = .on ∧
      (t.duty.toNat + 1 = s.duty.toNat ∨ t.duty.toNat = s.duty.toNat + 1))

/-- 10_state.md R39: LOAD_EN is MODE = ON, and after reset it is 0. -/
def Obligations.LoadEnableIsModeOn : Prop :=
  (∀ s : State, s.loadEn = true ↔ s.mode = .on) ∧ (∀ c : Config, (State.resetOf c).loadEn = false)

/-- Out of reset the output ports are the views 10_state.md R42 writes: `adc_req` with `adc_ch` in phases 0 to 2, `frame_valid` in phase 7, and DUTY, LOAD_EN, FAN and LED as they stand; and a frame is offered exactly in phase 7, with the values of 45_handoff_and_host.md R201 from the registers it names. -/
def Obligations.OutputPortsAreTheirEquations : Prop :=
  ∀ s : State, s.rst = false →
    (s.adcReq = true ↔ s.phase.toNat ≤ 2) ∧ (s.adcReq = true → s.adcCh.toNat = s.phase.toNat) ∧
    (s.frameValid = true ↔ s.phase = 7#3) ∧ s.dutyOut = s.duty ∧ s.fanEn = s.fan ∧ s.ledOut = s.led ∧
    (s.loadEn = true ↔ s.mode = .on) ∧
    (s.phase ≠ 7#3 → s.frame = none) ∧
    (s.phase = 7#3 → ∃ f, s.frame = some f ∧
      f.mode = s.mode ∧ f.volts = s.voltage.toInt ∧ f.amps = s.current.toInt ∧ f.watts = s.power.toInt ∧
      f.targetCurrent = s.target.toInt ∧ f.lowVoltageCutoff = s.lvcut.toInt ∧ f.dutyCycle = s.duty.toNat ∧
      f.dispMode = s.dispMode ∧ f.highGain = s.highGain)

/-! The invariants of 10_state.md R45, and runs. -/

/-- In every state with the invariants, each mode but ON has the load gate off and a duty that is fully off: "no mode permits uncontrolled current flow" (10_state.md R45 (e), 42_regulator.md R143). -/
def Obligations.EveryModeButOnIsFullyOff : Prop :=
  ∀ s : State, BlockInv s → s.mode ≠ .on → s.loadEn = false ∧ fullyOff s.dutyOut = true

/-- The reset state of every configuration satisfies the invariants. -/
def Obligations.ResetSatisfiesTheInvariants : Prop :=
  ∀ c : Config, BlockInv (State.resetOf c)

/-- Every step, from any state that satisfies them and whatever the environment does, keeps the invariants. -/
def Obligations.EveryStepKeepsTheInvariants : Prop :=
  ∀ s t : State, BlockInv s → step s = .next t → BlockInv t

/-- 10_state.md R45: every state that a run from reset reaches, under any configuration and any turns, satisfies the invariants. -/
def Obligations.ReachableStatesSatisfyTheInvariants : Prop :=
  ∀ (c : Config) (turns : List Turn) (n : Nat) (t : State),
    runSteps n { State.resetOf c with env := turns } = .next t → BlockInv t

/-- From any state with the invariants under an admitted configuration, the next step answers a next state whatever the turn, and every exact result fits its register, so no free value is used (60_exceptions.md R220, R221; 00_scope.md R8; the free values and their count are the model's, logs 8 and 9). -/
def Obligations.NoStepStopsOrLeavesTheExactRange : Prop :=
  ∀ s : State, BlockInv s → admitted s.cfg = true → ∃ t, step s = .next t ∧ t.freeUses = s.freeUses

/-- From PHASE 0, the eight turns of a cycle run the eight phases and come back to PHASE 0, the three codes in the same slot of the three rings and the cursor one on (30_encoding.md R84, R90; 40_sampler.md R105). Of the five later phases it says only where PHASE goes and that the invariants hold; their effects are said phase by phase above. The turn list is the model's, log 3. -/
def Obligations.ACycleRunsTheEightPhases : Prop :=
  ∀ (s : State) (a b c : RawSample) (rest : List Turn), BlockInv s → admitted s.cfg = true → s.rst = false →
    s.phase = 0#3 → s.env = cycleTurns a b c ++ rest →
    ∃ t, runSteps 8 s = .next t ∧ t.phase = 0#3 ∧ t.env = rest ∧ BlockInv t ∧
      t.cursor.toNat = (s.cursor.toNat + 1) % 12 ∧
      (∀ ch i, t.histRead ch i = if i = s.cursor.toNat
        then .ok (match ch with | .shunt => a | .lowGain => b | .highGain => c) else s.histRead ch i)

/-- After any number of cycles from reset, each accumulator is the sum of exactly its last twelve codes, fewer counting the unfilled slots as 0, and the cursor is the count modulo 12 (40_sampler.md R105, R106; the turn list is the model's, log 3). -/
def Obligations.AccumulatorsHoldTheLastTwelveCodes : Prop :=
  ∀ (c : Config) (codes : List (RawSample × RawSample × RawSample)), admitted c = true →
    ∃ t, runSteps (8 * codes.length) { State.resetOf c with env := codesTurns codes } = .next t ∧
      t.phase = 0#3 ∧ t.env = [] ∧ t.cursor.toNat = codes.length % 12 ∧
      t.accShunt.toNat = lastTwelve (codes.map (fun x => x.1)).reverse ∧
      t.accLowGain.toNat = lastTwelve (codes.map (fun x => x.2.1)).reverse ∧
      t.accHighGain.toNat = lastTwelve (codes.map (fun x => x.2.2)).reverse

/-- The four steps DERIVE to REGULATE of a cycle whose reported voltage is below LVCUT, from every mode but SET, end with the load gate off and, in a state with the invariants, the duty at 1025: ON with no A pending and OFF with A pending trip to LVC; ON with A pending ends in OFF with no trip; OFF with no A pending stays OFF; LVC stays LVC, or ends in OFF where B is pending (42_regulator.md R140, R141; 44_mode.md R174, R177; 60_exceptions.md R223 (d), (e); the turn list is the model's, log 3). -/
def Obligations.UndervoltageEndsTheCycleOff : Prop :=
  ∀ (s : State) (rest : List Turn), admitted s.cfg = true → AccInRange s → s.rst = false → s.phase = 3#3 →
    s.env = quietTurn :: quietTurn :: quietTurn :: quietTurn :: rest → reportedVoltage s < s.lvcut.toInt →
    ((s.mode = .on ∧ s.pendA = false) ∨ (s.mode = .off ∧ s.pendA = true) →
      ∃ t, runSteps 4 s = .next t ∧ t.phase = 7#3 ∧ t.mode = .lvc ∧ t.duty = 1025#16 ∧ t.lastOk = true ∧
        t.loadEn = false) ∧
    (s.mode = .on ∧ s.pendA = true →
      ∃ t, runSteps 4 s = .next t ∧ t.phase = 7#3 ∧ t.mode = .off ∧ t.duty = 1025#16 ∧ t.lastOk = true ∧
        t.loadEn = false) ∧
    (s.mode = .off ∧ s.pendA = false →
      ∃ t, runSteps 4 s = .next t ∧ t.phase = 7#3 ∧ t.mode = .off ∧ t.duty = s.duty ∧ t.lastOk = s.lastOk ∧
        t.loadEn = false ∧ (BlockInv s → t.duty = 1025#16)) ∧
    (s.mode = .lvc →
      ∃ t, runSteps 4 s = .next t ∧ t.phase = 7#3 ∧ t.mode = (if s.pendB = true then .off else .lvc) ∧
        t.duty = s.duty ∧
        t.lastOk = (if s.pendB = true then true else if s.pendA = true then false else s.lastOk) ∧
        t.loadEn = false ∧ (BlockInv s → t.duty = 1025#16))
end

