-- ==== Sys2Proof/Laws/Operands.lean ====
section
/-! SUPPORT. What the operand forms and the flag computations can do, each said once. -/

namespace Sys2Proof.Machine

theorem fitsInt32_iff (v : Int) : fitsInt32 v = true ↔ -2147483648 ≤ v ∧ v ≤ 2147483647 := by
  simp [fitsInt32]

theorem fitsAcc_iff (v : Int) : fitsAcc v = true ↔ 0 ≤ v ∧ v ≤ 16383 := by
  simp [fitsAcc]

/-! The formulas with the literals of 00_scope.md R5 written out. -/

theorem mean_eq (a : AccWord) : mean a = a.toNat / 12 := rfl

theorem currentOf_eq (c : Config) (m : Nat) : currentOf c m = Int.tdiv ((m : Int) * c.kShunt) c.dShunt := rfl

theorem lowGainOf_eq (c : Config) (m : Nat) : lowGainOf c m = (m : Int) * c.kLg := rfl

theorem highGainOf_eq (c : Config) (m : Nat) : highGainOf c m = Int.tdiv ((m : Int) * c.kHg) 10 - c.offHg := rfl

theorem powerOf_eq (i v : Int) : powerOf i v = Int.tdiv (i * v) 1000 := rfl

/-- A result that fits is stored exactly and no free value is used. -/
theorem wordOrFree_toInt (v : Int) (n : Nat) (h : fitsInt32 v = true) : (wordOrFree v n).toInt = v := by
  have hb := (fitsInt32_iff v).1 h
  rw [wordOrFree, if_pos h, BitVec.toInt_ofInt]
  simp only [Int.bmod]
  omega

theorem accOrFree_toNat (v : Int) (n : Nat) (h : fitsAcc v = true) : ((accOrFree v n).toNat : Int) = v := by
  have hb := (fitsAcc_iff v).1 h
  rw [accOrFree, if_pos h, BitVec.toNat_ofInt]
  omega

@[simp] theorem usesAfter_fits (n : Nat) : usesAfter true n = n := rfl
@[simp] theorem usesAfter_unfit (n : Nat) : usesAfter false n = n + 1 := rfl

/-- Two exact results that fit are stored as the same bits exactly when they are equal. -/
theorem wordOrFree_eq_of_fits (v : Int) (n m : Nat) (h : fitsInt32 v = true) : wordOrFree v n = wordOrFree v m := by
  rw [wordOrFree, wordOrFree, if_pos h, if_pos h]

theorem highGainSelected_iff (v : Int) : highGainSelected v = true ↔ v ≤ 6000 := by
  simp [highGainSelected]

theorem fanTrip_iff (w : Word) : fanTrip w = true ↔ 2500 < w.toInt := by
  simp [fanTrip]

theorem undervoltage_iff (v l : Word) : undervoltage v l = true ↔ v.toInt < l.toInt := by
  simp [undervoltage]

theorem stepsDown_iff (c t : Word) (d : DutyWord) :
    stepsDown c t d = true ↔ c.toInt < t.toInt ∧ 300 < d.toNat := by
  simp [stepsDown, BitVec.lt_def]

theorem stepsUp_iff (c t : Word) (d : DutyWord) :
    stepsUp c t d = true ↔ t.toInt < c.toInt ∧ d.toNat < 1000 := by
  simp [stepsUp, BitVec.lt_def]

theorem tdiv_nonneg {a b : Int} (ha : 0 ≤ a) (hb : 0 ≤ b) : 0 ≤ tdiv a b := Int.tdiv_nonneg ha hb

end Sys2Proof.Machine
end

