-- ==== Sys2Proof/Laws/State.lean ====
section
/-! SUPPORT. One lemma per field per update, true by rfl, and what each update does to the views of the state. -/

namespace Sys2Proof.Machine

@[simp] theorem State.advance_phase (s : State) : (s.advance).phase = s.phase + 1#3 := rfl
@[simp] theorem State.advance_histShunt (s : State) : (s.advance).histShunt = s.histShunt := rfl
@[simp] theorem State.advance_histLowGain (s : State) : (s.advance).histLowGain = s.histLowGain := rfl
@[simp] theorem State.advance_histHighGain (s : State) : (s.advance).histHighGain = s.histHighGain := rfl
@[simp] theorem State.advance_cursor (s : State) : (s.advance).cursor = s.cursor := rfl
@[simp] theorem State.advance_accShunt (s : State) : (s.advance).accShunt = s.accShunt := rfl
@[simp] theorem State.advance_accLowGain (s : State) : (s.advance).accLowGain = s.accLowGain := rfl
@[simp] theorem State.advance_accHighGain (s : State) : (s.advance).accHighGain = s.accHighGain := rfl
@[simp] theorem State.advance_current (s : State) : (s.advance).current = s.current := rfl
@[simp] theorem State.advance_voltage (s : State) : (s.advance).voltage = s.voltage := rfl
@[simp] theorem State.advance_power (s : State) : (s.advance).power = s.power := rfl
@[simp] theorem State.advance_highGain (s : State) : (s.advance).highGain = s.highGain := rfl
@[simp] theorem State.advance_duty (s : State) : (s.advance).duty = s.duty := rfl
@[simp] theorem State.advance_mode (s : State) : (s.advance).mode = s.mode := rfl
@[simp] theorem State.advance_dispMode (s : State) : (s.advance).dispMode = s.dispMode := rfl
@[simp] theorem State.advance_lastOk (s : State) : (s.advance).lastOk = s.lastOk := rfl
@[simp] theorem State.advance_pendA (s : State) : (s.advance).pendA = s.pendA := rfl
@[simp] theorem State.advance_pendB (s : State) : (s.advance).pendB = s.pendB := rfl
@[simp] theorem State.advance_target (s : State) : (s.advance).target = s.target := rfl
@[simp] theorem State.advance_lvcut (s : State) : (s.advance).lvcut = s.lvcut := rfl
@[simp] theorem State.advance_fan (s : State) : (s.advance).fan = s.fan := rfl
@[simp] theorem State.advance_led (s : State) : (s.advance).led = s.led := rfl
@[simp] theorem State.advance_rst (s : State) : (s.advance).rst = s.rst := rfl
@[simp] theorem State.advance_rdata (s : State) : (s.advance).rdata = s.rdata := rfl
@[simp] theorem State.advance_env (s : State) : (s.advance).env = s.env := rfl
@[simp] theorem State.advance_cfg (s : State) : (s.advance).cfg = s.cfg := rfl
@[simp] theorem State.advance_freeUses (s : State) : (s.advance).freeUses = s.freeUses := rfl

@[simp] theorem State.advance_ring (s : State) (c : Channel) : (s.advance).ring c = s.ring c := by cases c <;> rfl
@[simp] theorem State.advance_acc (s : State) (c : Channel) : (s.advance).acc c = s.acc c := by cases c <;> rfl

@[simp] theorem State.advanceCursor_phase (s : State) : (s.advanceCursor).phase = s.phase := rfl
@[simp] theorem State.advanceCursor_histShunt (s : State) : (s.advanceCursor).histShunt = s.histShunt := rfl
@[simp] theorem State.advanceCursor_histLowGain (s : State) : (s.advanceCursor).histLowGain = s.histLowGain := rfl
@[simp] theorem State.advanceCursor_histHighGain (s : State) : (s.advanceCursor).histHighGain = s.histHighGain := rfl
@[simp] theorem State.advanceCursor_cursor (s : State) : s.advanceCursor.cursor = BitVec.ofNat 4 ((s.cursor.toNat + 1) % 12) := rfl
@[simp] theorem State.advanceCursor_accShunt (s : State) : (s.advanceCursor).accShunt = s.accShunt := rfl
@[simp] theorem State.advanceCursor_accLowGain (s : State) : (s.advanceCursor).accLowGain = s.accLowGain := rfl
@[simp] theorem State.advanceCursor_accHighGain (s : State) : (s.advanceCursor).accHighGain = s.accHighGain := rfl
@[simp] theorem State.advanceCursor_current (s : State) : (s.advanceCursor).current = s.current := rfl
@[simp] theorem State.advanceCursor_voltage (s : State) : (s.advanceCursor).voltage = s.voltage := rfl
@[simp] theorem State.advanceCursor_power (s : State) : (s.advanceCursor).power = s.power := rfl
@[simp] theorem State.advanceCursor_highGain (s : State) : (s.advanceCursor).highGain = s.highGain := rfl
@[simp] theorem State.advanceCursor_duty (s : State) : (s.advanceCursor).duty = s.duty := rfl
@[simp] theorem State.advanceCursor_mode (s : State) : (s.advanceCursor).mode = s.mode := rfl
@[simp] theorem State.advanceCursor_dispMode (s : State) : (s.advanceCursor).dispMode = s.dispMode := rfl
@[simp] theorem State.advanceCursor_lastOk (s : State) : (s.advanceCursor).lastOk = s.lastOk := rfl
@[simp] theorem State.advanceCursor_pendA (s : State) : (s.advanceCursor).pendA = s.pendA := rfl
@[simp] theorem State.advanceCursor_pendB (s : State) : (s.advanceCursor).pendB = s.pendB := rfl
@[simp] theorem State.advanceCursor_target (s : State) : (s.advanceCursor).target = s.target := rfl
@[simp] theorem State.advanceCursor_lvcut (s : State) : (s.advanceCursor).lvcut = s.lvcut := rfl
@[simp] theorem State.advanceCursor_fan (s : State) : (s.advanceCursor).fan = s.fan := rfl
@[simp] theorem State.advanceCursor_led (s : State) : (s.advanceCursor).led = s.led := rfl
@[simp] theorem State.advanceCursor_rst (s : State) : (s.advanceCursor).rst = s.rst := rfl
@[simp] theorem State.advanceCursor_rdata (s : State) : (s.advanceCursor).rdata = s.rdata := rfl
@[simp] theorem State.advanceCursor_env (s : State) : (s.advanceCursor).env = s.env := rfl
@[simp] theorem State.advanceCursor_cfg (s : State) : (s.advanceCursor).cfg = s.cfg := rfl
@[simp] theorem State.advanceCursor_freeUses (s : State) : (s.advanceCursor).freeUses = s.freeUses := rfl

@[simp] theorem State.advanceCursor_ring (s : State) (c : Channel) : (s.advanceCursor).ring c = s.ring c := by cases c <;> rfl
@[simp] theorem State.advanceCursor_acc (s : State) (c : Channel) : (s.advanceCursor).acc c = s.acc c := by cases c <;> rfl

@[simp] theorem State.storeCurrent_phase (s : State) (v : Int) : (s.storeCurrent v).phase = s.phase := rfl
@[simp] theorem State.storeCurrent_histShunt (s : State) (v : Int) : (s.storeCurrent v).histShunt = s.histShunt := rfl
@[simp] theorem State.storeCurrent_histLowGain (s : State) (v : Int) : (s.storeCurrent v).histLowGain = s.histLowGain := rfl
@[simp] theorem State.storeCurrent_histHighGain (s : State) (v : Int) : (s.storeCurrent v).histHighGain = s.histHighGain := rfl
@[simp] theorem State.storeCurrent_cursor (s : State) (v : Int) : (s.storeCurrent v).cursor = s.cursor := rfl
@[simp] theorem State.storeCurrent_accShunt (s : State) (v : Int) : (s.storeCurrent v).accShunt = s.accShunt := rfl
@[simp] theorem State.storeCurrent_accLowGain (s : State) (v : Int) : (s.storeCurrent v).accLowGain = s.accLowGain := rfl
@[simp] theorem State.storeCurrent_accHighGain (s : State) (v : Int) : (s.storeCurrent v).accHighGain = s.accHighGain := rfl
@[simp] theorem State.storeCurrent_current (s : State) (v : Int) : (s.storeCurrent v).current = wordOrFree v s.freeUses := rfl
@[simp] theorem State.storeCurrent_voltage (s : State) (v : Int) : (s.storeCurrent v).voltage = s.voltage := rfl
@[simp] theorem State.storeCurrent_power (s : State) (v : Int) : (s.storeCurrent v).power = s.power := rfl
@[simp] theorem State.storeCurrent_highGain (s : State) (v : Int) : (s.storeCurrent v).highGain = s.highGain := rfl
@[simp] theorem State.storeCurrent_duty (s : State) (v : Int) : (s.storeCurrent v).duty = s.duty := rfl
@[simp] theorem State.storeCurrent_mode (s : State) (v : Int) : (s.storeCurrent v).mode = s.mode := rfl
@[simp] theorem State.storeCurrent_dispMode (s : State) (v : Int) : (s.storeCurrent v).dispMode = s.dispMode := rfl
@[simp] theorem State.storeCurrent_lastOk (s : State) (v : Int) : (s.storeCurrent v).lastOk = s.lastOk := rfl
@[simp] theorem State.storeCurrent_pendA (s : State) (v : Int) : (s.storeCurrent v).pendA = s.pendA := rfl
@[simp] theorem State.storeCurrent_pendB (s : State) (v : Int) : (s.storeCurrent v).pendB = s.pendB := rfl
@[simp] theorem State.storeCurrent_target (s : State) (v : Int) : (s.storeCurrent v).target = s.target := rfl
@[simp] theorem State.storeCurrent_lvcut (s : State) (v : Int) : (s.storeCurrent v).lvcut = s.lvcut := rfl
@[simp] theorem State.storeCurrent_fan (s : State) (v : Int) : (s.storeCurrent v).fan = s.fan := rfl
@[simp] theorem State.storeCurrent_led (s : State) (v : Int) : (s.storeCurrent v).led = s.led := rfl
@[simp] theorem State.storeCurrent_rst (s : State) (v : Int) : (s.storeCurrent v).rst = s.rst := rfl
@[simp] theorem State.storeCurrent_rdata (s : State) (v : Int) : (s.storeCurrent v).rdata = s.rdata := rfl
@[simp] theorem State.storeCurrent_env (s : State) (v : Int) : (s.storeCurrent v).env = s.env := rfl
@[simp] theorem State.storeCurrent_cfg (s : State) (v : Int) : (s.storeCurrent v).cfg = s.cfg := rfl
@[simp] theorem State.storeCurrent_freeUses (s : State) (v : Int) : (s.storeCurrent v).freeUses = usesAfter (fitsInt32 v) s.freeUses := rfl

@[simp] theorem State.storeCurrent_ring (s : State) (v : Int) (c : Channel) : (s.storeCurrent v).ring c = s.ring c := by cases c <;> rfl
@[simp] theorem State.storeCurrent_acc (s : State) (v : Int) (c : Channel) : (s.storeCurrent v).acc c = s.acc c := by cases c <;> rfl

@[simp] theorem State.storeVoltage_phase (s : State) (v : Int) : (s.storeVoltage v).phase = s.phase := rfl
@[simp] theorem State.storeVoltage_histShunt (s : State) (v : Int) : (s.storeVoltage v).histShunt = s.histShunt := rfl
@[simp] theorem State.storeVoltage_histLowGain (s : State) (v : Int) : (s.storeVoltage v).histLowGain = s.histLowGain := rfl
@[simp] theorem State.storeVoltage_histHighGain (s : State) (v : Int) : (s.storeVoltage v).histHighGain = s.histHighGain := rfl
@[simp] theorem State.storeVoltage_cursor (s : State) (v : Int) : (s.storeVoltage v).cursor = s.cursor := rfl
@[simp] theorem State.storeVoltage_accShunt (s : State) (v : Int) : (s.storeVoltage v).accShunt = s.accShunt := rfl
@[simp] theorem State.storeVoltage_accLowGain (s : State) (v : Int) : (s.storeVoltage v).accLowGain = s.accLowGain := rfl
@[simp] theorem State.storeVoltage_accHighGain (s : State) (v : Int) : (s.storeVoltage v).accHighGain = s.accHighGain := rfl
@[simp] theorem State.storeVoltage_current (s : State) (v : Int) : (s.storeVoltage v).current = s.current := rfl
@[simp] theorem State.storeVoltage_voltage (s : State) (v : Int) : (s.storeVoltage v).voltage = wordOrFree v s.freeUses := rfl
@[simp] theorem State.storeVoltage_power (s : State) (v : Int) : (s.storeVoltage v).power = s.power := rfl
@[simp] theorem State.storeVoltage_highGain (s : State) (v : Int) : (s.storeVoltage v).highGain = s.highGain := rfl
@[simp] theorem State.storeVoltage_duty (s : State) (v : Int) : (s.storeVoltage v).duty = s.duty := rfl
@[simp] theorem State.storeVoltage_mode (s : State) (v : Int) : (s.storeVoltage v).mode = s.mode := rfl
@[simp] theorem State.storeVoltage_dispMode (s : State) (v : Int) : (s.storeVoltage v).dispMode = s.dispMode := rfl
@[simp] theorem State.storeVoltage_lastOk (s : State) (v : Int) : (s.storeVoltage v).lastOk = s.lastOk := rfl
@[simp] theorem State.storeVoltage_pendA (s : State) (v : Int) : (s.storeVoltage v).pendA = s.pendA := rfl
@[simp] theorem State.storeVoltage_pendB (s : State) (v : Int) : (s.storeVoltage v).pendB = s.pendB := rfl
@[simp] theorem State.storeVoltage_target (s : State) (v : Int) : (s.storeVoltage v).target = s.target := rfl
@[simp] theorem State.storeVoltage_lvcut (s : State) (v : Int) : (s.storeVoltage v).lvcut = s.lvcut := rfl
@[simp] theorem State.storeVoltage_fan (s : State) (v : Int) : (s.storeVoltage v).fan = s.fan := rfl
@[simp] theorem State.storeVoltage_led (s : State) (v : Int) : (s.storeVoltage v).led = s.led := rfl
@[simp] theorem State.storeVoltage_rst (s : State) (v : Int) : (s.storeVoltage v).rst = s.rst := rfl
@[simp] theorem State.storeVoltage_rdata (s : State) (v : Int) : (s.storeVoltage v).rdata = s.rdata := rfl
@[simp] theorem State.storeVoltage_env (s : State) (v : Int) : (s.storeVoltage v).env = s.env := rfl
@[simp] theorem State.storeVoltage_cfg (s : State) (v : Int) : (s.storeVoltage v).cfg = s.cfg := rfl
@[simp] theorem State.storeVoltage_freeUses (s : State) (v : Int) : (s.storeVoltage v).freeUses = usesAfter (fitsInt32 v) s.freeUses := rfl

@[simp] theorem State.storeVoltage_ring (s : State) (v : Int) (c : Channel) : (s.storeVoltage v).ring c = s.ring c := by cases c <;> rfl
@[simp] theorem State.storeVoltage_acc (s : State) (v : Int) (c : Channel) : (s.storeVoltage v).acc c = s.acc c := by cases c <;> rfl

@[simp] theorem State.storePower_phase (s : State) (v : Int) : (s.storePower v).phase = s.phase := rfl
@[simp] theorem State.storePower_histShunt (s : State) (v : Int) : (s.storePower v).histShunt = s.histShunt := rfl
@[simp] theorem State.storePower_histLowGain (s : State) (v : Int) : (s.storePower v).histLowGain = s.histLowGain := rfl
@[simp] theorem State.storePower_histHighGain (s : State) (v : Int) : (s.storePower v).histHighGain = s.histHighGain := rfl
@[simp] theorem State.storePower_cursor (s : State) (v : Int) : (s.storePower v).cursor = s.cursor := rfl
@[simp] theorem State.storePower_accShunt (s : State) (v : Int) : (s.storePower v).accShunt = s.accShunt := rfl
@[simp] theorem State.storePower_accLowGain (s : State) (v : Int) : (s.storePower v).accLowGain = s.accLowGain := rfl
@[simp] theorem State.storePower_accHighGain (s : State) (v : Int) : (s.storePower v).accHighGain = s.accHighGain := rfl
@[simp] theorem State.storePower_current (s : State) (v : Int) : (s.storePower v).current = s.current := rfl
@[simp] theorem State.storePower_voltage (s : State) (v : Int) : (s.storePower v).voltage = s.voltage := rfl
@[simp] theorem State.storePower_power (s : State) (v : Int) : (s.storePower v).power = wordOrFree v s.freeUses := rfl
@[simp] theorem State.storePower_highGain (s : State) (v : Int) : (s.storePower v).highGain = s.highGain := rfl
@[simp] theorem State.storePower_duty (s : State) (v : Int) : (s.storePower v).duty = s.duty := rfl
@[simp] theorem State.storePower_mode (s : State) (v : Int) : (s.storePower v).mode = s.mode := rfl
@[simp] theorem State.storePower_dispMode (s : State) (v : Int) : (s.storePower v).dispMode = s.dispMode := rfl
@[simp] theorem State.storePower_lastOk (s : State) (v : Int) : (s.storePower v).lastOk = s.lastOk := rfl
@[simp] theorem State.storePower_pendA (s : State) (v : Int) : (s.storePower v).pendA = s.pendA := rfl
@[simp] theorem State.storePower_pendB (s : State) (v : Int) : (s.storePower v).pendB = s.pendB := rfl
@[simp] theorem State.storePower_target (s : State) (v : Int) : (s.storePower v).target = s.target := rfl
@[simp] theorem State.storePower_lvcut (s : State) (v : Int) : (s.storePower v).lvcut = s.lvcut := rfl
@[simp] theorem State.storePower_fan (s : State) (v : Int) : (s.storePower v).fan = s.fan := rfl
@[simp] theorem State.storePower_led (s : State) (v : Int) : (s.storePower v).led = s.led := rfl
@[simp] theorem State.storePower_rst (s : State) (v : Int) : (s.storePower v).rst = s.rst := rfl
@[simp] theorem State.storePower_rdata (s : State) (v : Int) : (s.storePower v).rdata = s.rdata := rfl
@[simp] theorem State.storePower_env (s : State) (v : Int) : (s.storePower v).env = s.env := rfl
@[simp] theorem State.storePower_cfg (s : State) (v : Int) : (s.storePower v).cfg = s.cfg := rfl
@[simp] theorem State.storePower_freeUses (s : State) (v : Int) : (s.storePower v).freeUses = usesAfter (fitsInt32 v) s.freeUses := rfl

@[simp] theorem State.storePower_ring (s : State) (v : Int) (c : Channel) : (s.storePower v).ring c = s.ring c := by cases c <;> rfl
@[simp] theorem State.storePower_acc (s : State) (v : Int) (c : Channel) : (s.storePower v).acc c = s.acc c := by cases c <;> rfl

@[simp] theorem State.setHighGain_phase (s : State) (v : Bool) : (s.setHighGain v).phase = s.phase := rfl
@[simp] theorem State.setHighGain_histShunt (s : State) (v : Bool) : (s.setHighGain v).histShunt = s.histShunt := rfl
@[simp] theorem State.setHighGain_histLowGain (s : State) (v : Bool) : (s.setHighGain v).histLowGain = s.histLowGain := rfl
@[simp] theorem State.setHighGain_histHighGain (s : State) (v : Bool) : (s.setHighGain v).histHighGain = s.histHighGain := rfl
@[simp] theorem State.setHighGain_cursor (s : State) (v : Bool) : (s.setHighGain v).cursor = s.cursor := rfl
@[simp] theorem State.setHighGain_accShunt (s : State) (v : Bool) : (s.setHighGain v).accShunt = s.accShunt := rfl
@[simp] theorem State.setHighGain_accLowGain (s : State) (v : Bool) : (s.setHighGain v).accLowGain = s.accLowGain := rfl
@[simp] theorem State.setHighGain_accHighGain (s : State) (v : Bool) : (s.setHighGain v).accHighGain = s.accHighGain := rfl
@[simp] theorem State.setHighGain_current (s : State) (v : Bool) : (s.setHighGain v).current = s.current := rfl
@[simp] theorem State.setHighGain_voltage (s : State) (v : Bool) : (s.setHighGain v).voltage = s.voltage := rfl
@[simp] theorem State.setHighGain_power (s : State) (v : Bool) : (s.setHighGain v).power = s.power := rfl
@[simp] theorem State.setHighGain_highGain (s : State) (v : Bool) : (s.setHighGain v).highGain = v := rfl
@[simp] theorem State.setHighGain_duty (s : State) (v : Bool) : (s.setHighGain v).duty = s.duty := rfl
@[simp] theorem State.setHighGain_mode (s : State) (v : Bool) : (s.setHighGain v).mode = s.mode := rfl
@[simp] theorem State.setHighGain_dispMode (s : State) (v : Bool) : (s.setHighGain v).dispMode = s.dispMode := rfl
@[simp] theorem State.setHighGain_lastOk (s : State) (v : Bool) : (s.setHighGain v).lastOk = s.lastOk := rfl
@[simp] theorem State.setHighGain_pendA (s : State) (v : Bool) : (s.setHighGain v).pendA = s.pendA := rfl
@[simp] theorem State.setHighGain_pendB (s : State) (v : Bool) : (s.setHighGain v).pendB = s.pendB := rfl
@[simp] theorem State.setHighGain_target (s : State) (v : Bool) : (s.setHighGain v).target = s.target := rfl
@[simp] theorem State.setHighGain_lvcut (s : State) (v : Bool) : (s.setHighGain v).lvcut = s.lvcut := rfl
@[simp] theorem State.setHighGain_fan (s : State) (v : Bool) : (s.setHighGain v).fan = s.fan := rfl
@[simp] theorem State.setHighGain_led (s : State) (v : Bool) : (s.setHighGain v).led = s.led := rfl
@[simp] theorem State.setHighGain_rst (s : State) (v : Bool) : (s.setHighGain v).rst = s.rst := rfl
@[simp] theorem State.setHighGain_rdata (s : State) (v : Bool) : (s.setHighGain v).rdata = s.rdata := rfl
@[simp] theorem State.setHighGain_env (s : State) (v : Bool) : (s.setHighGain v).env = s.env := rfl
@[simp] theorem State.setHighGain_cfg (s : State) (v : Bool) : (s.setHighGain v).cfg = s.cfg := rfl
@[simp] theorem State.setHighGain_freeUses (s : State) (v : Bool) : (s.setHighGain v).freeUses = s.freeUses := rfl

@[simp] theorem State.setHighGain_ring (s : State) (v : Bool) (c : Channel) : (s.setHighGain v).ring c = s.ring c := by cases c <;> rfl
@[simp] theorem State.setHighGain_acc (s : State) (v : Bool) (c : Channel) : (s.setHighGain v).acc c = s.acc c := by cases c <;> rfl

@[simp] theorem State.setDuty_phase (s : State) (v : DutyWord) : (s.setDuty v).phase = s.phase := rfl
@[simp] theorem State.setDuty_histShunt (s : State) (v : DutyWord) : (s.setDuty v).histShunt = s.histShunt := rfl
@[simp] theorem State.setDuty_histLowGain (s : State) (v : DutyWord) : (s.setDuty v).histLowGain = s.histLowGain := rfl
@[simp] theorem State.setDuty_histHighGain (s : State) (v : DutyWord) : (s.setDuty v).histHighGain = s.histHighGain := rfl
@[simp] theorem State.setDuty_cursor (s : State) (v : DutyWord) : (s.setDuty v).cursor = s.cursor := rfl
@[simp] theorem State.setDuty_accShunt (s : State) (v : DutyWord) : (s.setDuty v).accShunt = s.accShunt := rfl
@[simp] theorem State.setDuty_accLowGain (s : State) (v : DutyWord) : (s.setDuty v).accLowGain = s.accLowGain := rfl
@[simp] theorem State.setDuty_accHighGain (s : State) (v : DutyWord) : (s.setDuty v).accHighGain = s.accHighGain := rfl
@[simp] theorem State.setDuty_current (s : State) (v : DutyWord) : (s.setDuty v).current = s.current := rfl
@[simp] theorem State.setDuty_voltage (s : State) (v : DutyWord) : (s.setDuty v).voltage = s.voltage := rfl
@[simp] theorem State.setDuty_power (s : State) (v : DutyWord) : (s.setDuty v).power = s.power := rfl
@[simp] theorem State.setDuty_highGain (s : State) (v : DutyWord) : (s.setDuty v).highGain = s.highGain := rfl
@[simp] theorem State.setDuty_duty (s : State) (v : DutyWord) : (s.setDuty v).duty = v := rfl
@[simp] theorem State.setDuty_mode (s : State) (v : DutyWord) : (s.setDuty v).mode = s.mode := rfl
@[simp] theorem State.setDuty_dispMode (s : State) (v : DutyWord) : (s.setDuty v).dispMode = s.dispMode := rfl
@[simp] theorem State.setDuty_lastOk (s : State) (v : DutyWord) : (s.setDuty v).lastOk = s.lastOk := rfl
@[simp] theorem State.setDuty_pendA (s : State) (v : DutyWord) : (s.setDuty v).pendA = s.pendA := rfl
@[simp] theorem State.setDuty_pendB (s : State) (v : DutyWord) : (s.setDuty v).pendB = s.pendB := rfl
@[simp] theorem State.setDuty_target (s : State) (v : DutyWord) : (s.setDuty v).target = s.target := rfl
@[simp] theorem State.setDuty_lvcut (s : State) (v : DutyWord) : (s.setDuty v).lvcut = s.lvcut := rfl
@[simp] theorem State.setDuty_fan (s : State) (v : DutyWord) : (s.setDuty v).fan = s.fan := rfl
@[simp] theorem State.setDuty_led (s : State) (v : DutyWord) : (s.setDuty v).led = s.led := rfl
@[simp] theorem State.setDuty_rst (s : State) (v : DutyWord) : (s.setDuty v).rst = s.rst := rfl
@[simp] theorem State.setDuty_rdata (s : State) (v : DutyWord) : (s.setDuty v).rdata = s.rdata := rfl
@[simp] theorem State.setDuty_env (s : State) (v : DutyWord) : (s.setDuty v).env = s.env := rfl
@[simp] theorem State.setDuty_cfg (s : State) (v : DutyWord) : (s.setDuty v).cfg = s.cfg := rfl
@[simp] theorem State.setDuty_freeUses (s : State) (v : DutyWord) : (s.setDuty v).freeUses = s.freeUses := rfl

@[simp] theorem State.setDuty_ring (s : State) (v : DutyWord) (c : Channel) : (s.setDuty v).ring c = s.ring c := by cases c <;> rfl
@[simp] theorem State.setDuty_acc (s : State) (v : DutyWord) (c : Channel) : (s.setDuty v).acc c = s.acc c := by cases c <;> rfl

@[simp] theorem State.setMode_phase (s : State) (v : Mode) : (s.setMode v).phase = s.phase := rfl
@[simp] theorem State.setMode_histShunt (s : State) (v : Mode) : (s.setMode v).histShunt = s.histShunt := rfl
@[simp] theorem State.setMode_histLowGain (s : State) (v : Mode) : (s.setMode v).histLowGain = s.histLowGain := rfl
@[simp] theorem State.setMode_histHighGain (s : State) (v : Mode) : (s.setMode v).histHighGain = s.histHighGain := rfl
@[simp] theorem State.setMode_cursor (s : State) (v : Mode) : (s.setMode v).cursor = s.cursor := rfl
@[simp] theorem State.setMode_accShunt (s : State) (v : Mode) : (s.setMode v).accShunt = s.accShunt := rfl
@[simp] theorem State.setMode_accLowGain (s : State) (v : Mode) : (s.setMode v).accLowGain = s.accLowGain := rfl
@[simp] theorem State.setMode_accHighGain (s : State) (v : Mode) : (s.setMode v).accHighGain = s.accHighGain := rfl
@[simp] theorem State.setMode_current (s : State) (v : Mode) : (s.setMode v).current = s.current := rfl
@[simp] theorem State.setMode_voltage (s : State) (v : Mode) : (s.setMode v).voltage = s.voltage := rfl
@[simp] theorem State.setMode_power (s : State) (v : Mode) : (s.setMode v).power = s.power := rfl
@[simp] theorem State.setMode_highGain (s : State) (v : Mode) : (s.setMode v).highGain = s.highGain := rfl
@[simp] theorem State.setMode_duty (s : State) (v : Mode) : (s.setMode v).duty = s.duty := rfl
@[simp] theorem State.setMode_mode (s : State) (v : Mode) : (s.setMode v).mode = v := rfl
@[simp] theorem State.setMode_dispMode (s : State) (v : Mode) : (s.setMode v).dispMode = s.dispMode := rfl
@[simp] theorem State.setMode_lastOk (s : State) (v : Mode) : (s.setMode v).lastOk = s.lastOk := rfl
@[simp] theorem State.setMode_pendA (s : State) (v : Mode) : (s.setMode v).pendA = s.pendA := rfl
@[simp] theorem State.setMode_pendB (s : State) (v : Mode) : (s.setMode v).pendB = s.pendB := rfl
@[simp] theorem State.setMode_target (s : State) (v : Mode) : (s.setMode v).target = s.target := rfl
@[simp] theorem State.setMode_lvcut (s : State) (v : Mode) : (s.setMode v).lvcut = s.lvcut := rfl
@[simp] theorem State.setMode_fan (s : State) (v : Mode) : (s.setMode v).fan = s.fan := rfl
@[simp] theorem State.setMode_led (s : State) (v : Mode) : (s.setMode v).led = s.led := rfl
@[simp] theorem State.setMode_rst (s : State) (v : Mode) : (s.setMode v).rst = s.rst := rfl
@[simp] theorem State.setMode_rdata (s : State) (v : Mode) : (s.setMode v).rdata = s.rdata := rfl
@[simp] theorem State.setMode_env (s : State) (v : Mode) : (s.setMode v).env = s.env := rfl
@[simp] theorem State.setMode_cfg (s : State) (v : Mode) : (s.setMode v).cfg = s.cfg := rfl
@[simp] theorem State.setMode_freeUses (s : State) (v : Mode) : (s.setMode v).freeUses = s.freeUses := rfl

@[simp] theorem State.setMode_ring (s : State) (v : Mode) (c : Channel) : (s.setMode v).ring c = s.ring c := by cases c <;> rfl
@[simp] theorem State.setMode_acc (s : State) (v : Mode) (c : Channel) : (s.setMode v).acc c = s.acc c := by cases c <;> rfl

@[simp] theorem State.setDispMode_phase (s : State) (v : DispMode) : (s.setDispMode v).phase = s.phase := rfl
@[simp] theorem State.setDispMode_histShunt (s : State) (v : DispMode) : (s.setDispMode v).histShunt = s.histShunt := rfl
@[simp] theorem State.setDispMode_histLowGain (s : State) (v : DispMode) : (s.setDispMode v).histLowGain = s.histLowGain := rfl
@[simp] theorem State.setDispMode_histHighGain (s : State) (v : DispMode) : (s.setDispMode v).histHighGain = s.histHighGain := rfl
@[simp] theorem State.setDispMode_cursor (s : State) (v : DispMode) : (s.setDispMode v).cursor = s.cursor := rfl
@[simp] theorem State.setDispMode_accShunt (s : State) (v : DispMode) : (s.setDispMode v).accShunt = s.accShunt := rfl
@[simp] theorem State.setDispMode_accLowGain (s : State) (v : DispMode) : (s.setDispMode v).accLowGain = s.accLowGain := rfl
@[simp] theorem State.setDispMode_accHighGain (s : State) (v : DispMode) : (s.setDispMode v).accHighGain = s.accHighGain := rfl
@[simp] theorem State.setDispMode_current (s : State) (v : DispMode) : (s.setDispMode v).current = s.current := rfl
@[simp] theorem State.setDispMode_voltage (s : State) (v : DispMode) : (s.setDispMode v).voltage = s.voltage := rfl
@[simp] theorem State.setDispMode_power (s : State) (v : DispMode) : (s.setDispMode v).power = s.power := rfl
@[simp] theorem State.setDispMode_highGain (s : State) (v : DispMode) : (s.setDispMode v).highGain = s.highGain := rfl
@[simp] theorem State.setDispMode_duty (s : State) (v : DispMode) : (s.setDispMode v).duty = s.duty := rfl
@[simp] theorem State.setDispMode_mode (s : State) (v : DispMode) : (s.setDispMode v).mode = s.mode := rfl
@[simp] theorem State.setDispMode_dispMode (s : State) (v : DispMode) : (s.setDispMode v).dispMode = v := rfl
@[simp] theorem State.setDispMode_lastOk (s : State) (v : DispMode) : (s.setDispMode v).lastOk = s.lastOk := rfl
@[simp] theorem State.setDispMode_pendA (s : State) (v : DispMode) : (s.setDispMode v).pendA = s.pendA := rfl
@[simp] theorem State.setDispMode_pendB (s : State) (v : DispMode) : (s.setDispMode v).pendB = s.pendB := rfl
@[simp] theorem State.setDispMode_target (s : State) (v : DispMode) : (s.setDispMode v).target = s.target := rfl
@[simp] theorem State.setDispMode_lvcut (s : State) (v : DispMode) : (s.setDispMode v).lvcut = s.lvcut := rfl
@[simp] theorem State.setDispMode_fan (s : State) (v : DispMode) : (s.setDispMode v).fan = s.fan := rfl
@[simp] theorem State.setDispMode_led (s : State) (v : DispMode) : (s.setDispMode v).led = s.led := rfl
@[simp] theorem State.setDispMode_rst (s : State) (v : DispMode) : (s.setDispMode v).rst = s.rst := rfl
@[simp] theorem State.setDispMode_rdata (s : State) (v : DispMode) : (s.setDispMode v).rdata = s.rdata := rfl
@[simp] theorem State.setDispMode_env (s : State) (v : DispMode) : (s.setDispMode v).env = s.env := rfl
@[simp] theorem State.setDispMode_cfg (s : State) (v : DispMode) : (s.setDispMode v).cfg = s.cfg := rfl
@[simp] theorem State.setDispMode_freeUses (s : State) (v : DispMode) : (s.setDispMode v).freeUses = s.freeUses := rfl

@[simp] theorem State.setDispMode_ring (s : State) (v : DispMode) (c : Channel) : (s.setDispMode v).ring c = s.ring c := by cases c <;> rfl
@[simp] theorem State.setDispMode_acc (s : State) (v : DispMode) (c : Channel) : (s.setDispMode v).acc c = s.acc c := by cases c <;> rfl

@[simp] theorem State.setLastOk_phase (s : State) (v : Bool) : (s.setLastOk v).phase = s.phase := rfl
@[simp] theorem State.setLastOk_histShunt (s : State) (v : Bool) : (s.setLastOk v).histShunt = s.histShunt := rfl
@[simp] theorem State.setLastOk_histLowGain (s : State) (v : Bool) : (s.setLastOk v).histLowGain = s.histLowGain := rfl
@[simp] theorem State.setLastOk_histHighGain (s : State) (v : Bool) : (s.setLastOk v).histHighGain = s.histHighGain := rfl
@[simp] theorem State.setLastOk_cursor (s : State) (v : Bool) : (s.setLastOk v).cursor = s.cursor := rfl
@[simp] theorem State.setLastOk_accShunt (s : State) (v : Bool) : (s.setLastOk v).accShunt = s.accShunt := rfl
@[simp] theorem State.setLastOk_accLowGain (s : State) (v : Bool) : (s.setLastOk v).accLowGain = s.accLowGain := rfl
@[simp] theorem State.setLastOk_accHighGain (s : State) (v : Bool) : (s.setLastOk v).accHighGain = s.accHighGain := rfl
@[simp] theorem State.setLastOk_current (s : State) (v : Bool) : (s.setLastOk v).current = s.current := rfl
@[simp] theorem State.setLastOk_voltage (s : State) (v : Bool) : (s.setLastOk v).voltage = s.voltage := rfl
@[simp] theorem State.setLastOk_power (s : State) (v : Bool) : (s.setLastOk v).power = s.power := rfl
@[simp] theorem State.setLastOk_highGain (s : State) (v : Bool) : (s.setLastOk v).highGain = s.highGain := rfl
@[simp] theorem State.setLastOk_duty (s : State) (v : Bool) : (s.setLastOk v).duty = s.duty := rfl
@[simp] theorem State.setLastOk_mode (s : State) (v : Bool) : (s.setLastOk v).mode = s.mode := rfl
@[simp] theorem State.setLastOk_dispMode (s : State) (v : Bool) : (s.setLastOk v).dispMode = s.dispMode := rfl
@[simp] theorem State.setLastOk_lastOk (s : State) (v : Bool) : (s.setLastOk v).lastOk = v := rfl
@[simp] theorem State.setLastOk_pendA (s : State) (v : Bool) : (s.setLastOk v).pendA = s.pendA := rfl
@[simp] theorem State.setLastOk_pendB (s : State) (v : Bool) : (s.setLastOk v).pendB = s.pendB := rfl
@[simp] theorem State.setLastOk_target (s : State) (v : Bool) : (s.setLastOk v).target = s.target := rfl
@[simp] theorem State.setLastOk_lvcut (s : State) (v : Bool) : (s.setLastOk v).lvcut = s.lvcut := rfl
@[simp] theorem State.setLastOk_fan (s : State) (v : Bool) : (s.setLastOk v).fan = s.fan := rfl
@[simp] theorem State.setLastOk_led (s : State) (v : Bool) : (s.setLastOk v).led = s.led := rfl
@[simp] theorem State.setLastOk_rst (s : State) (v : Bool) : (s.setLastOk v).rst = s.rst := rfl
@[simp] theorem State.setLastOk_rdata (s : State) (v : Bool) : (s.setLastOk v).rdata = s.rdata := rfl
@[simp] theorem State.setLastOk_env (s : State) (v : Bool) : (s.setLastOk v).env = s.env := rfl
@[simp] theorem State.setLastOk_cfg (s : State) (v : Bool) : (s.setLastOk v).cfg = s.cfg := rfl
@[simp] theorem State.setLastOk_freeUses (s : State) (v : Bool) : (s.setLastOk v).freeUses = s.freeUses := rfl

@[simp] theorem State.setLastOk_ring (s : State) (v : Bool) (c : Channel) : (s.setLastOk v).ring c = s.ring c := by cases c <;> rfl
@[simp] theorem State.setLastOk_acc (s : State) (v : Bool) (c : Channel) : (s.setLastOk v).acc c = s.acc c := by cases c <;> rfl

@[simp] theorem State.setPendA_phase (s : State) (v : Bool) : (s.setPendA v).phase = s.phase := rfl
@[simp] theorem State.setPendA_histShunt (s : State) (v : Bool) : (s.setPendA v).histShunt = s.histShunt := rfl
@[simp] theorem State.setPendA_histLowGain (s : State) (v : Bool) : (s.setPendA v).histLowGain = s.histLowGain := rfl
@[simp] theorem State.setPendA_histHighGain (s : State) (v : Bool) : (s.setPendA v).histHighGain = s.histHighGain := rfl
@[simp] theorem State.setPendA_cursor (s : State) (v : Bool) : (s.setPendA v).cursor = s.cursor := rfl
@[simp] theorem State.setPendA_accShunt (s : State) (v : Bool) : (s.setPendA v).accShunt = s.accShunt := rfl
@[simp] theorem State.setPendA_accLowGain (s : State) (v : Bool) : (s.setPendA v).accLowGain = s.accLowGain := rfl
@[simp] theorem State.setPendA_accHighGain (s : State) (v : Bool) : (s.setPendA v).accHighGain = s.accHighGain := rfl
@[simp] theorem State.setPendA_current (s : State) (v : Bool) : (s.setPendA v).current = s.current := rfl
@[simp] theorem State.setPendA_voltage (s : State) (v : Bool) : (s.setPendA v).voltage = s.voltage := rfl
@[simp] theorem State.setPendA_power (s : State) (v : Bool) : (s.setPendA v).power = s.power := rfl
@[simp] theorem State.setPendA_highGain (s : State) (v : Bool) : (s.setPendA v).highGain = s.highGain := rfl
@[simp] theorem State.setPendA_duty (s : State) (v : Bool) : (s.setPendA v).duty = s.duty := rfl
@[simp] theorem State.setPendA_mode (s : State) (v : Bool) : (s.setPendA v).mode = s.mode := rfl
@[simp] theorem State.setPendA_dispMode (s : State) (v : Bool) : (s.setPendA v).dispMode = s.dispMode := rfl
@[simp] theorem State.setPendA_lastOk (s : State) (v : Bool) : (s.setPendA v).lastOk = s.lastOk := rfl
@[simp] theorem State.setPendA_pendA (s : State) (v : Bool) : (s.setPendA v).pendA = v := rfl
@[simp] theorem State.setPendA_pendB (s : State) (v : Bool) : (s.setPendA v).pendB = s.pendB := rfl
@[simp] theorem State.setPendA_target (s : State) (v : Bool) : (s.setPendA v).target = s.target := rfl
@[simp] theorem State.setPendA_lvcut (s : State) (v : Bool) : (s.setPendA v).lvcut = s.lvcut := rfl
@[simp] theorem State.setPendA_fan (s : State) (v : Bool) : (s.setPendA v).fan = s.fan := rfl
@[simp] theorem State.setPendA_led (s : State) (v : Bool) : (s.setPendA v).led = s.led := rfl
@[simp] theorem State.setPendA_rst (s : State) (v : Bool) : (s.setPendA v).rst = s.rst := rfl
@[simp] theorem State.setPendA_rdata (s : State) (v : Bool) : (s.setPendA v).rdata = s.rdata := rfl
@[simp] theorem State.setPendA_env (s : State) (v : Bool) : (s.setPendA v).env = s.env := rfl
@[simp] theorem State.setPendA_cfg (s : State) (v : Bool) : (s.setPendA v).cfg = s.cfg := rfl
@[simp] theorem State.setPendA_freeUses (s : State) (v : Bool) : (s.setPendA v).freeUses = s.freeUses := rfl

@[simp] theorem State.setPendA_ring (s : State) (v : Bool) (c : Channel) : (s.setPendA v).ring c = s.ring c := by cases c <;> rfl
@[simp] theorem State.setPendA_acc (s : State) (v : Bool) (c : Channel) : (s.setPendA v).acc c = s.acc c := by cases c <;> rfl

@[simp] theorem State.setPendB_phase (s : State) (v : Bool) : (s.setPendB v).phase = s.phase := rfl
@[simp] theorem State.setPendB_histShunt (s : State) (v : Bool) : (s.setPendB v).histShunt = s.histShunt := rfl
@[simp] theorem State.setPendB_histLowGain (s : State) (v : Bool) : (s.setPendB v).histLowGain = s.histLowGain := rfl
@[simp] theorem State.setPendB_histHighGain (s : State) (v : Bool) : (s.setPendB v).histHighGain = s.histHighGain := rfl
@[simp] theorem State.setPendB_cursor (s : State) (v : Bool) : (s.setPendB v).cursor = s.cursor := rfl
@[simp] theorem State.setPendB_accShunt (s : State) (v : Bool) : (s.setPendB v).accShunt = s.accShunt := rfl
@[simp] theorem State.setPendB_accLowGain (s : State) (v : Bool) : (s.setPendB v).accLowGain = s.accLowGain := rfl
@[simp] theorem State.setPendB_accHighGain (s : State) (v : Bool) : (s.setPendB v).accHighGain = s.accHighGain := rfl
@[simp] theorem State.setPendB_current (s : State) (v : Bool) : (s.setPendB v).current = s.current := rfl
@[simp] theorem State.setPendB_voltage (s : State) (v : Bool) : (s.setPendB v).voltage = s.voltage := rfl
@[simp] theorem State.setPendB_power (s : State) (v : Bool) : (s.setPendB v).power = s.power := rfl
@[simp] theorem State.setPendB_highGain (s : State) (v : Bool) : (s.setPendB v).highGain = s.highGain := rfl
@[simp] theorem State.setPendB_duty (s : State) (v : Bool) : (s.setPendB v).duty = s.duty := rfl
@[simp] theorem State.setPendB_mode (s : State) (v : Bool) : (s.setPendB v).mode = s.mode := rfl
@[simp] theorem State.setPendB_dispMode (s : State) (v : Bool) : (s.setPendB v).dispMode = s.dispMode := rfl
@[simp] theorem State.setPendB_lastOk (s : State) (v : Bool) : (s.setPendB v).lastOk = s.lastOk := rfl
@[simp] theorem State.setPendB_pendA (s : State) (v : Bool) : (s.setPendB v).pendA = s.pendA := rfl
@[simp] theorem State.setPendB_pendB (s : State) (v : Bool) : (s.setPendB v).pendB = v := rfl
@[simp] theorem State.setPendB_target (s : State) (v : Bool) : (s.setPendB v).target = s.target := rfl
@[simp] theorem State.setPendB_lvcut (s : State) (v : Bool) : (s.setPendB v).lvcut = s.lvcut := rfl
@[simp] theorem State.setPendB_fan (s : State) (v : Bool) : (s.setPendB v).fan = s.fan := rfl
@[simp] theorem State.setPendB_led (s : State) (v : Bool) : (s.setPendB v).led = s.led := rfl
@[simp] theorem State.setPendB_rst (s : State) (v : Bool) : (s.setPendB v).rst = s.rst := rfl
@[simp] theorem State.setPendB_rdata (s : State) (v : Bool) : (s.setPendB v).rdata = s.rdata := rfl
@[simp] theorem State.setPendB_env (s : State) (v : Bool) : (s.setPendB v).env = s.env := rfl
@[simp] theorem State.setPendB_cfg (s : State) (v : Bool) : (s.setPendB v).cfg = s.cfg := rfl
@[simp] theorem State.setPendB_freeUses (s : State) (v : Bool) : (s.setPendB v).freeUses = s.freeUses := rfl

@[simp] theorem State.setPendB_ring (s : State) (v : Bool) (c : Channel) : (s.setPendB v).ring c = s.ring c := by cases c <;> rfl
@[simp] theorem State.setPendB_acc (s : State) (v : Bool) (c : Channel) : (s.setPendB v).acc c = s.acc c := by cases c <;> rfl

@[simp] theorem State.setTarget_phase (s : State) (v : Word) : (s.setTarget v).phase = s.phase := rfl
@[simp] theorem State.setTarget_histShunt (s : State) (v : Word) : (s.setTarget v).histShunt = s.histShunt := rfl
@[simp] theorem State.setTarget_histLowGain (s : State) (v : Word) : (s.setTarget v).histLowGain = s.histLowGain := rfl
@[simp] theorem State.setTarget_histHighGain (s : State) (v : Word) : (s.setTarget v).histHighGain = s.histHighGain := rfl
@[simp] theorem State.setTarget_cursor (s : State) (v : Word) : (s.setTarget v).cursor = s.cursor := rfl
@[simp] theorem State.setTarget_accShunt (s : State) (v : Word) : (s.setTarget v).accShunt = s.accShunt := rfl
@[simp] theorem State.setTarget_accLowGain (s : State) (v : Word) : (s.setTarget v).accLowGain = s.accLowGain := rfl
@[simp] theorem State.setTarget_accHighGain (s : State) (v : Word) : (s.setTarget v).accHighGain = s.accHighGain := rfl
@[simp] theorem State.setTarget_current (s : State) (v : Word) : (s.setTarget v).current = s.current := rfl
@[simp] theorem State.setTarget_voltage (s : State) (v : Word) : (s.setTarget v).voltage = s.voltage := rfl
@[simp] theorem State.setTarget_power (s : State) (v : Word) : (s.setTarget v).power = s.power := rfl
@[simp] theorem State.setTarget_highGain (s : State) (v : Word) : (s.setTarget v).highGain = s.highGain := rfl
@[simp] theorem State.setTarget_duty (s : State) (v : Word) : (s.setTarget v).duty = s.duty := rfl
@[simp] theorem State.setTarget_mode (s : State) (v : Word) : (s.setTarget v).mode = s.mode := rfl
@[simp] theorem State.setTarget_dispMode (s : State) (v : Word) : (s.setTarget v).dispMode = s.dispMode := rfl
@[simp] theorem State.setTarget_lastOk (s : State) (v : Word) : (s.setTarget v).lastOk = s.lastOk := rfl
@[simp] theorem State.setTarget_pendA (s : State) (v : Word) : (s.setTarget v).pendA = s.pendA := rfl
@[simp] theorem State.setTarget_pendB (s : State) (v : Word) : (s.setTarget v).pendB = s.pendB := rfl
@[simp] theorem State.setTarget_target (s : State) (v : Word) : (s.setTarget v).target = v := rfl
@[simp] theorem State.setTarget_lvcut (s : State) (v : Word) : (s.setTarget v).lvcut = s.lvcut := rfl
@[simp] theorem State.setTarget_fan (s : State) (v : Word) : (s.setTarget v).fan = s.fan := rfl
@[simp] theorem State.setTarget_led (s : State) (v : Word) : (s.setTarget v).led = s.led := rfl
@[simp] theorem State.setTarget_rst (s : State) (v : Word) : (s.setTarget v).rst = s.rst := rfl
@[simp] theorem State.setTarget_rdata (s : State) (v : Word) : (s.setTarget v).rdata = s.rdata := rfl
@[simp] theorem State.setTarget_env (s : State) (v : Word) : (s.setTarget v).env = s.env := rfl
@[simp] theorem State.setTarget_cfg (s : State) (v : Word) : (s.setTarget v).cfg = s.cfg := rfl
@[simp] theorem State.setTarget_freeUses (s : State) (v : Word) : (s.setTarget v).freeUses = s.freeUses := rfl

@[simp] theorem State.setTarget_ring (s : State) (v : Word) (c : Channel) : (s.setTarget v).ring c = s.ring c := by cases c <;> rfl
@[simp] theorem State.setTarget_acc (s : State) (v : Word) (c : Channel) : (s.setTarget v).acc c = s.acc c := by cases c <;> rfl

@[simp] theorem State.setLvcut_phase (s : State) (v : Word) : (s.setLvcut v).phase = s.phase := rfl
@[simp] theorem State.setLvcut_histShunt (s : State) (v : Word) : (s.setLvcut v).histShunt = s.histShunt := rfl
@[simp] theorem State.setLvcut_histLowGain (s : State) (v : Word) : (s.setLvcut v).histLowGain = s.histLowGain := rfl
@[simp] theorem State.setLvcut_histHighGain (s : State) (v : Word) : (s.setLvcut v).histHighGain = s.histHighGain := rfl
@[simp] theorem State.setLvcut_cursor (s : State) (v : Word) : (s.setLvcut v).cursor = s.cursor := rfl
@[simp] theorem State.setLvcut_accShunt (s : State) (v : Word) : (s.setLvcut v).accShunt = s.accShunt := rfl
@[simp] theorem State.setLvcut_accLowGain (s : State) (v : Word) : (s.setLvcut v).accLowGain = s.accLowGain := rfl
@[simp] theorem State.setLvcut_accHighGain (s : State) (v : Word) : (s.setLvcut v).accHighGain = s.accHighGain := rfl
@[simp] theorem State.setLvcut_current (s : State) (v : Word) : (s.setLvcut v).current = s.current := rfl
@[simp] theorem State.setLvcut_voltage (s : State) (v : Word) : (s.setLvcut v).voltage = s.voltage := rfl
@[simp] theorem State.setLvcut_power (s : State) (v : Word) : (s.setLvcut v).power = s.power := rfl
@[simp] theorem State.setLvcut_highGain (s : State) (v : Word) : (s.setLvcut v).highGain = s.highGain := rfl
@[simp] theorem State.setLvcut_duty (s : State) (v : Word) : (s.setLvcut v).duty = s.duty := rfl
@[simp] theorem State.setLvcut_mode (s : State) (v : Word) : (s.setLvcut v).mode = s.mode := rfl
@[simp] theorem State.setLvcut_dispMode (s : State) (v : Word) : (s.setLvcut v).dispMode = s.dispMode := rfl
@[simp] theorem State.setLvcut_lastOk (s : State) (v : Word) : (s.setLvcut v).lastOk = s.lastOk := rfl
@[simp] theorem State.setLvcut_pendA (s : State) (v : Word) : (s.setLvcut v).pendA = s.pendA := rfl
@[simp] theorem State.setLvcut_pendB (s : State) (v : Word) : (s.setLvcut v).pendB = s.pendB := rfl
@[simp] theorem State.setLvcut_target (s : State) (v : Word) : (s.setLvcut v).target = s.target := rfl
@[simp] theorem State.setLvcut_lvcut (s : State) (v : Word) : (s.setLvcut v).lvcut = v := rfl
@[simp] theorem State.setLvcut_fan (s : State) (v : Word) : (s.setLvcut v).fan = s.fan := rfl
@[simp] theorem State.setLvcut_led (s : State) (v : Word) : (s.setLvcut v).led = s.led := rfl
@[simp] theorem State.setLvcut_rst (s : State) (v : Word) : (s.setLvcut v).rst = s.rst := rfl
@[simp] theorem State.setLvcut_rdata (s : State) (v : Word) : (s.setLvcut v).rdata = s.rdata := rfl
@[simp] theorem State.setLvcut_env (s : State) (v : Word) : (s.setLvcut v).env = s.env := rfl
@[simp] theorem State.setLvcut_cfg (s : State) (v : Word) : (s.setLvcut v).cfg = s.cfg := rfl
@[simp] theorem State.setLvcut_freeUses (s : State) (v : Word) : (s.setLvcut v).freeUses = s.freeUses := rfl

@[simp] theorem State.setLvcut_ring (s : State) (v : Word) (c : Channel) : (s.setLvcut v).ring c = s.ring c := by cases c <;> rfl
@[simp] theorem State.setLvcut_acc (s : State) (v : Word) (c : Channel) : (s.setLvcut v).acc c = s.acc c := by cases c <;> rfl

@[simp] theorem State.setFan_phase (s : State) (v : Bool) : (s.setFan v).phase = s.phase := rfl
@[simp] theorem State.setFan_histShunt (s : State) (v : Bool) : (s.setFan v).histShunt = s.histShunt := rfl
@[simp] theorem State.setFan_histLowGain (s : State) (v : Bool) : (s.setFan v).histLowGain = s.histLowGain := rfl
@[simp] theorem State.setFan_histHighGain (s : State) (v : Bool) : (s.setFan v).histHighGain = s.histHighGain := rfl
@[simp] theorem State.setFan_cursor (s : State) (v : Bool) : (s.setFan v).cursor = s.cursor := rfl
@[simp] theorem State.setFan_accShunt (s : State) (v : Bool) : (s.setFan v).accShunt = s.accShunt := rfl
@[simp] theorem State.setFan_accLowGain (s : State) (v : Bool) : (s.setFan v).accLowGain = s.accLowGain := rfl
@[simp] theorem State.setFan_accHighGain (s : State) (v : Bool) : (s.setFan v).accHighGain = s.accHighGain := rfl
@[simp] theorem State.setFan_current (s : State) (v : Bool) : (s.setFan v).current = s.current := rfl
@[simp] theorem State.setFan_voltage (s : State) (v : Bool) : (s.setFan v).voltage = s.voltage := rfl
@[simp] theorem State.setFan_power (s : State) (v : Bool) : (s.setFan v).power = s.power := rfl
@[simp] theorem State.setFan_highGain (s : State) (v : Bool) : (s.setFan v).highGain = s.highGain := rfl
@[simp] theorem State.setFan_duty (s : State) (v : Bool) : (s.setFan v).duty = s.duty := rfl
@[simp] theorem State.setFan_mode (s : State) (v : Bool) : (s.setFan v).mode = s.mode := rfl
@[simp] theorem State.setFan_dispMode (s : State) (v : Bool) : (s.setFan v).dispMode = s.dispMode := rfl
@[simp] theorem State.setFan_lastOk (s : State) (v : Bool) : (s.setFan v).lastOk = s.lastOk := rfl
@[simp] theorem State.setFan_pendA (s : State) (v : Bool) : (s.setFan v).pendA = s.pendA := rfl
@[simp] theorem State.setFan_pendB (s : State) (v : Bool) : (s.setFan v).pendB = s.pendB := rfl
@[simp] theorem State.setFan_target (s : State) (v : Bool) : (s.setFan v).target = s.target := rfl
@[simp] theorem State.setFan_lvcut (s : State) (v : Bool) : (s.setFan v).lvcut = s.lvcut := rfl
@[simp] theorem State.setFan_fan (s : State) (v : Bool) : (s.setFan v).fan = v := rfl
@[simp] theorem State.setFan_led (s : State) (v : Bool) : (s.setFan v).led = s.led := rfl
@[simp] theorem State.setFan_rst (s : State) (v : Bool) : (s.setFan v).rst = s.rst := rfl
@[simp] theorem State.setFan_rdata (s : State) (v : Bool) : (s.setFan v).rdata = s.rdata := rfl
@[simp] theorem State.setFan_env (s : State) (v : Bool) : (s.setFan v).env = s.env := rfl
@[simp] theorem State.setFan_cfg (s : State) (v : Bool) : (s.setFan v).cfg = s.cfg := rfl
@[simp] theorem State.setFan_freeUses (s : State) (v : Bool) : (s.setFan v).freeUses = s.freeUses := rfl

@[simp] theorem State.setFan_ring (s : State) (v : Bool) (c : Channel) : (s.setFan v).ring c = s.ring c := by cases c <;> rfl
@[simp] theorem State.setFan_acc (s : State) (v : Bool) (c : Channel) : (s.setFan v).acc c = s.acc c := by cases c <;> rfl

@[simp] theorem State.setRdata_phase (s : State) (v : Word) : (s.setRdata v).phase = s.phase := rfl
@[simp] theorem State.setRdata_histShunt (s : State) (v : Word) : (s.setRdata v).histShunt = s.histShunt := rfl
@[simp] theorem State.setRdata_histLowGain (s : State) (v : Word) : (s.setRdata v).histLowGain = s.histLowGain := rfl
@[simp] theorem State.setRdata_histHighGain (s : State) (v : Word) : (s.setRdata v).histHighGain = s.histHighGain := rfl
@[simp] theorem State.setRdata_cursor (s : State) (v : Word) : (s.setRdata v).cursor = s.cursor := rfl
@[simp] theorem State.setRdata_accShunt (s : State) (v : Word) : (s.setRdata v).accShunt = s.accShunt := rfl
@[simp] theorem State.setRdata_accLowGain (s : State) (v : Word) : (s.setRdata v).accLowGain = s.accLowGain := rfl
@[simp] theorem State.setRdata_accHighGain (s : State) (v : Word) : (s.setRdata v).accHighGain = s.accHighGain := rfl
@[simp] theorem State.setRdata_current (s : State) (v : Word) : (s.setRdata v).current = s.current := rfl
@[simp] theorem State.setRdata_voltage (s : State) (v : Word) : (s.setRdata v).voltage = s.voltage := rfl
@[simp] theorem State.setRdata_power (s : State) (v : Word) : (s.setRdata v).power = s.power := rfl
@[simp] theorem State.setRdata_highGain (s : State) (v : Word) : (s.setRdata v).highGain = s.highGain := rfl
@[simp] theorem State.setRdata_duty (s : State) (v : Word) : (s.setRdata v).duty = s.duty := rfl
@[simp] theorem State.setRdata_mode (s : State) (v : Word) : (s.setRdata v).mode = s.mode := rfl
@[simp] theorem State.setRdata_dispMode (s : State) (v : Word) : (s.setRdata v).dispMode = s.dispMode := rfl
@[simp] theorem State.setRdata_lastOk (s : State) (v : Word) : (s.setRdata v).lastOk = s.lastOk := rfl
@[simp] theorem State.setRdata_pendA (s : State) (v : Word) : (s.setRdata v).pendA = s.pendA := rfl
@[simp] theorem State.setRdata_pendB (s : State) (v : Word) : (s.setRdata v).pendB = s.pendB := rfl
@[simp] theorem State.setRdata_target (s : State) (v : Word) : (s.setRdata v).target = s.target := rfl
@[simp] theorem State.setRdata_lvcut (s : State) (v : Word) : (s.setRdata v).lvcut = s.lvcut := rfl
@[simp] theorem State.setRdata_fan (s : State) (v : Word) : (s.setRdata v).fan = s.fan := rfl
@[simp] theorem State.setRdata_led (s : State) (v : Word) : (s.setRdata v).led = s.led := rfl
@[simp] theorem State.setRdata_rst (s : State) (v : Word) : (s.setRdata v).rst = s.rst := rfl
@[simp] theorem State.setRdata_rdata (s : State) (v : Word) : (s.setRdata v).rdata = v := rfl
@[simp] theorem State.setRdata_env (s : State) (v : Word) : (s.setRdata v).env = s.env := rfl
@[simp] theorem State.setRdata_cfg (s : State) (v : Word) : (s.setRdata v).cfg = s.cfg := rfl
@[simp] theorem State.setRdata_freeUses (s : State) (v : Word) : (s.setRdata v).freeUses = s.freeUses := rfl

@[simp] theorem State.setRdata_ring (s : State) (v : Word) (c : Channel) : (s.setRdata v).ring c = s.ring c := by cases c <;> rfl
@[simp] theorem State.setRdata_acc (s : State) (v : Word) (c : Channel) : (s.setRdata v).acc c = s.acc c := by cases c <;> rfl

@[simp] theorem State.dropTurn_phase (s : State) : (s.dropTurn).phase = s.phase := rfl
@[simp] theorem State.dropTurn_histShunt (s : State) : (s.dropTurn).histShunt = s.histShunt := rfl
@[simp] theorem State.dropTurn_histLowGain (s : State) : (s.dropTurn).histLowGain = s.histLowGain := rfl
@[simp] theorem State.dropTurn_histHighGain (s : State) : (s.dropTurn).histHighGain = s.histHighGain := rfl
@[simp] theorem State.dropTurn_cursor (s : State) : (s.dropTurn).cursor = s.cursor := rfl
@[simp] theorem State.dropTurn_accShunt (s : State) : (s.dropTurn).accShunt = s.accShunt := rfl
@[simp] theorem State.dropTurn_accLowGain (s : State) : (s.dropTurn).accLowGain = s.accLowGain := rfl
@[simp] theorem State.dropTurn_accHighGain (s : State) : (s.dropTurn).accHighGain = s.accHighGain := rfl
@[simp] theorem State.dropTurn_current (s : State) : (s.dropTurn).current = s.current := rfl
@[simp] theorem State.dropTurn_voltage (s : State) : (s.dropTurn).voltage = s.voltage := rfl
@[simp] theorem State.dropTurn_power (s : State) : (s.dropTurn).power = s.power := rfl
@[simp] theorem State.dropTurn_highGain (s : State) : (s.dropTurn).highGain = s.highGain := rfl
@[simp] theorem State.dropTurn_duty (s : State) : (s.dropTurn).duty = s.duty := rfl
@[simp] theorem State.dropTurn_mode (s : State) : (s.dropTurn).mode = s.mode := rfl
@[simp] theorem State.dropTurn_dispMode (s : State) : (s.dropTurn).dispMode = s.dispMode := rfl
@[simp] theorem State.dropTurn_lastOk (s : State) : (s.dropTurn).lastOk = s.lastOk := rfl
@[simp] theorem State.dropTurn_pendA (s : State) : (s.dropTurn).pendA = s.pendA := rfl
@[simp] theorem State.dropTurn_pendB (s : State) : (s.dropTurn).pendB = s.pendB := rfl
@[simp] theorem State.dropTurn_target (s : State) : (s.dropTurn).target = s.target := rfl
@[simp] theorem State.dropTurn_lvcut (s : State) : (s.dropTurn).lvcut = s.lvcut := rfl
@[simp] theorem State.dropTurn_fan (s : State) : (s.dropTurn).fan = s.fan := rfl
@[simp] theorem State.dropTurn_led (s : State) : (s.dropTurn).led = s.led := rfl
@[simp] theorem State.dropTurn_rst (s : State) : (s.dropTurn).rst = s.rst := rfl
@[simp] theorem State.dropTurn_rdata (s : State) : (s.dropTurn).rdata = s.rdata := rfl
@[simp] theorem State.dropTurn_env (s : State) : (s.dropTurn).env = s.env.tail := rfl
@[simp] theorem State.dropTurn_cfg (s : State) : (s.dropTurn).cfg = s.cfg := rfl
@[simp] theorem State.dropTurn_freeUses (s : State) : (s.dropTurn).freeUses = s.freeUses := rfl

@[simp] theorem State.dropTurn_ring (s : State) (c : Channel) : (s.dropTurn).ring c = s.ring c := by cases c <;> rfl
@[simp] theorem State.dropTurn_acc (s : State) (c : Channel) : (s.dropTurn).acc c = s.acc c := by cases c <;> rfl

@[simp] theorem State.releaseReset_phase (s : State) : (s.releaseReset).phase = s.phase := rfl
@[simp] theorem State.releaseReset_histShunt (s : State) : (s.releaseReset).histShunt = s.histShunt := rfl
@[simp] theorem State.releaseReset_histLowGain (s : State) : (s.releaseReset).histLowGain = s.histLowGain := rfl
@[simp] theorem State.releaseReset_histHighGain (s : State) : (s.releaseReset).histHighGain = s.histHighGain := rfl
@[simp] theorem State.releaseReset_cursor (s : State) : (s.releaseReset).cursor = s.cursor := rfl
@[simp] theorem State.releaseReset_accShunt (s : State) : (s.releaseReset).accShunt = s.accShunt := rfl
@[simp] theorem State.releaseReset_accLowGain (s : State) : (s.releaseReset).accLowGain = s.accLowGain := rfl
@[simp] theorem State.releaseReset_accHighGain (s : State) : (s.releaseReset).accHighGain = s.accHighGain := rfl
@[simp] theorem State.releaseReset_current (s : State) : (s.releaseReset).current = s.current := rfl
@[simp] theorem State.releaseReset_voltage (s : State) : (s.releaseReset).voltage = s.voltage := rfl
@[simp] theorem State.releaseReset_power (s : State) : (s.releaseReset).power = s.power := rfl
@[simp] theorem State.releaseReset_highGain (s : State) : (s.releaseReset).highGain = s.highGain := rfl
@[simp] theorem State.releaseReset_duty (s : State) : (s.releaseReset).duty = s.duty := rfl
@[simp] theorem State.releaseReset_mode (s : State) : (s.releaseReset).mode = s.mode := rfl
@[simp] theorem State.releaseReset_dispMode (s : State) : (s.releaseReset).dispMode = s.dispMode := rfl
@[simp] theorem State.releaseReset_lastOk (s : State) : (s.releaseReset).lastOk = s.lastOk := rfl
@[simp] theorem State.releaseReset_pendA (s : State) : (s.releaseReset).pendA = s.pendA := rfl
@[simp] theorem State.releaseReset_pendB (s : State) : (s.releaseReset).pendB = s.pendB := rfl
@[simp] theorem State.releaseReset_target (s : State) : (s.releaseReset).target = s.target := rfl
@[simp] theorem State.releaseReset_lvcut (s : State) : (s.releaseReset).lvcut = s.lvcut := rfl
@[simp] theorem State.releaseReset_fan (s : State) : (s.releaseReset).fan = s.fan := rfl
@[simp] theorem State.releaseReset_led (s : State) : (s.releaseReset).led = s.led := rfl
@[simp] theorem State.releaseReset_rst (s : State) : (s.releaseReset).rst = false := rfl
@[simp] theorem State.releaseReset_rdata (s : State) : (s.releaseReset).rdata = s.rdata := rfl
@[simp] theorem State.releaseReset_env (s : State) : (s.releaseReset).env = s.env := rfl
@[simp] theorem State.releaseReset_cfg (s : State) : (s.releaseReset).cfg = s.cfg := rfl
@[simp] theorem State.releaseReset_freeUses (s : State) : (s.releaseReset).freeUses = s.freeUses := rfl

@[simp] theorem State.releaseReset_ring (s : State) (c : Channel) : (s.releaseReset).ring c = s.ring c := by cases c <;> rfl
@[simp] theorem State.releaseReset_acc (s : State) (c : Channel) : (s.releaseReset).acc c = s.acc c := by cases c <;> rfl

@[simp] theorem State.setRing_phase (s : State) (c : Channel) (r : Ring) : (s.setRing c r).phase = s.phase := by cases c <;> rfl
@[simp] theorem State.setRing_cursor (s : State) (c : Channel) (r : Ring) : (s.setRing c r).cursor = s.cursor := by cases c <;> rfl
@[simp] theorem State.setRing_accShunt (s : State) (c : Channel) (r : Ring) : (s.setRing c r).accShunt = s.accShunt := by cases c <;> rfl
@[simp] theorem State.setRing_accLowGain (s : State) (c : Channel) (r : Ring) : (s.setRing c r).accLowGain = s.accLowGain := by cases c <;> rfl
@[simp] theorem State.setRing_accHighGain (s : State) (c : Channel) (r : Ring) : (s.setRing c r).accHighGain = s.accHighGain := by cases c <;> rfl
@[simp] theorem State.setRing_current (s : State) (c : Channel) (r : Ring) : (s.setRing c r).current = s.current := by cases c <;> rfl
@[simp] theorem State.setRing_voltage (s : State) (c : Channel) (r : Ring) : (s.setRing c r).voltage = s.voltage := by cases c <;> rfl
@[simp] theorem State.setRing_power (s : State) (c : Channel) (r : Ring) : (s.setRing c r).power = s.power := by cases c <;> rfl
@[simp] theorem State.setRing_highGain (s : State) (c : Channel) (r : Ring) : (s.setRing c r).highGain = s.highGain := by cases c <;> rfl
@[simp] theorem State.setRing_duty (s : State) (c : Channel) (r : Ring) : (s.setRing c r).duty = s.duty := by cases c <;> rfl
@[simp] theorem State.setRing_mode (s : State) (c : Channel) (r : Ring) : (s.setRing c r).mode = s.mode := by cases c <;> rfl
@[simp] theorem State.setRing_dispMode (s : State) (c : Channel) (r : Ring) : (s.setRing c r).dispMode = s.dispMode := by cases c <;> rfl
@[simp] theorem State.setRing_lastOk (s : State) (c : Channel) (r : Ring) : (s.setRing c r).lastOk = s.lastOk := by cases c <;> rfl
@[simp] theorem State.setRing_pendA (s : State) (c : Channel) (r : Ring) : (s.setRing c r).pendA = s.pendA := by cases c <;> rfl
@[simp] theorem State.setRing_pendB (s : State) (c : Channel) (r : Ring) : (s.setRing c r).pendB = s.pendB := by cases c <;> rfl
@[simp] theorem State.setRing_target (s : State) (c : Channel) (r : Ring) : (s.setRing c r).target = s.target := by cases c <;> rfl
@[simp] theorem State.setRing_lvcut (s : State) (c : Channel) (r : Ring) : (s.setRing c r).lvcut = s.lvcut := by cases c <;> rfl
@[simp] theorem State.setRing_fan (s : State) (c : Channel) (r : Ring) : (s.setRing c r).fan = s.fan := by cases c <;> rfl
@[simp] theorem State.setRing_led (s : State) (c : Channel) (r : Ring) : (s.setRing c r).led = s.led := by cases c <;> rfl
@[simp] theorem State.setRing_rst (s : State) (c : Channel) (r : Ring) : (s.setRing c r).rst = s.rst := by cases c <;> rfl
@[simp] theorem State.setRing_rdata (s : State) (c : Channel) (r : Ring) : (s.setRing c r).rdata = s.rdata := by cases c <;> rfl
@[simp] theorem State.setRing_env (s : State) (c : Channel) (r : Ring) : (s.setRing c r).env = s.env := by cases c <;> rfl
@[simp] theorem State.setRing_cfg (s : State) (c : Channel) (r : Ring) : (s.setRing c r).cfg = s.cfg := by cases c <;> rfl
@[simp] theorem State.setRing_freeUses (s : State) (c : Channel) (r : Ring) : (s.setRing c r).freeUses = s.freeUses := by cases c <;> rfl

@[simp] theorem State.storeAcc_phase (s : State) (c : Channel) (v : Int) : (s.storeAcc c v).phase = s.phase := by cases c <;> rfl
@[simp] theorem State.storeAcc_histShunt (s : State) (c : Channel) (v : Int) : (s.storeAcc c v).histShunt = s.histShunt := by cases c <;> rfl
@[simp] theorem State.storeAcc_histLowGain (s : State) (c : Channel) (v : Int) : (s.storeAcc c v).histLowGain = s.histLowGain := by cases c <;> rfl
@[simp] theorem State.storeAcc_histHighGain (s : State) (c : Channel) (v : Int) : (s.storeAcc c v).histHighGain = s.histHighGain := by cases c <;> rfl
@[simp] theorem State.storeAcc_cursor (s : State) (c : Channel) (v : Int) : (s.storeAcc c v).cursor = s.cursor := by cases c <;> rfl
@[simp] theorem State.storeAcc_current (s : State) (c : Channel) (v : Int) : (s.storeAcc c v).current = s.current := by cases c <;> rfl
@[simp] theorem State.storeAcc_voltage (s : State) (c : Channel) (v : Int) : (s.storeAcc c v).voltage = s.voltage := by cases c <;> rfl
@[simp] theorem State.storeAcc_power (s : State) (c : Channel) (v : Int) : (s.storeAcc c v).power = s.power := by cases c <;> rfl
@[simp] theorem State.storeAcc_highGain (s : State) (c : Channel) (v : Int) : (s.storeAcc c v).highGain = s.highGain := by cases c <;> rfl
@[simp] theorem State.storeAcc_duty (s : State) (c : Channel) (v : Int) : (s.storeAcc c v).duty = s.duty := by cases c <;> rfl
@[simp] theorem State.storeAcc_mode (s : State) (c : Channel) (v : Int) : (s.storeAcc c v).mode = s.mode := by cases c <;> rfl
@[simp] theorem State.storeAcc_dispMode (s : State) (c : Channel) (v : Int) : (s.storeAcc c v).dispMode = s.dispMode := by cases c <;> rfl
@[simp] theorem State.storeAcc_lastOk (s : State) (c : Channel) (v : Int) : (s.storeAcc c v).lastOk = s.lastOk := by cases c <;> rfl
@[simp] theorem State.storeAcc_pendA (s : State) (c : Channel) (v : Int) : (s.storeAcc c v).pendA = s.pendA := by cases c <;> rfl
@[simp] theorem State.storeAcc_pendB (s : State) (c : Channel) (v : Int) : (s.storeAcc c v).pendB = s.pendB := by cases c <;> rfl
@[simp] theorem State.storeAcc_target (s : State) (c : Channel) (v : Int) : (s.storeAcc c v).target = s.target := by cases c <;> rfl
@[simp] theorem State.storeAcc_lvcut (s : State) (c : Channel) (v : Int) : (s.storeAcc c v).lvcut = s.lvcut := by cases c <;> rfl
@[simp] theorem State.storeAcc_fan (s : State) (c : Channel) (v : Int) : (s.storeAcc c v).fan = s.fan := by cases c <;> rfl
@[simp] theorem State.storeAcc_led (s : State) (c : Channel) (v : Int) : (s.storeAcc c v).led = s.led := by cases c <;> rfl
@[simp] theorem State.storeAcc_rst (s : State) (c : Channel) (v : Int) : (s.storeAcc c v).rst = s.rst := by cases c <;> rfl
@[simp] theorem State.storeAcc_rdata (s : State) (c : Channel) (v : Int) : (s.storeAcc c v).rdata = s.rdata := by cases c <;> rfl
@[simp] theorem State.storeAcc_env (s : State) (c : Channel) (v : Int) : (s.storeAcc c v).env = s.env := by cases c <;> rfl
@[simp] theorem State.storeAcc_cfg (s : State) (c : Channel) (v : Int) : (s.storeAcc c v).cfg = s.cfg := by cases c <;> rfl

@[simp] theorem State.storeAcc_freeUses (s : State) (c : Channel) (v : Int) :
    (s.storeAcc c v).freeUses = usesAfter (fitsAcc v) s.freeUses := by cases c <;> rfl
@[simp] theorem State.storeAcc_acc_same (s : State) (c : Channel) (v : Int) :
    (s.storeAcc c v).acc c = accOrFree v s.freeUses := by cases c <;> rfl
theorem State.storeAcc_acc_other (s : State) (c d : Channel) (v : Int) (h : d ≠ c) :
    (s.storeAcc c v).acc d = s.acc d := by cases c <;> cases d <;> first | rfl | exact absurd rfl h
@[simp] theorem State.storeAcc_ring (s : State) (c d : Channel) (v : Int) :
    (s.storeAcc c v).ring d = s.ring d := by cases c <;> cases d <;> rfl
@[simp] theorem State.setRing_ring_same (s : State) (c : Channel) (r : Ring) :
    (s.setRing c r).ring c = r := by cases c <;> rfl
theorem State.setRing_ring_other (s : State) (c d : Channel) (r : Ring) (h : d ≠ c) :
    (s.setRing c r).ring d = s.ring d := by cases c <;> cases d <;> first | rfl | exact absurd rfl h
@[simp] theorem State.setRing_acc (s : State) (c d : Channel) (r : Ring) :
    (s.setRing c r).acc d = s.acc d := by cases c <;> cases d <;> rfl

/-! Reset. -/

@[simp] theorem State.assertReset_phase (s : State) : s.assertReset.phase = 0#3 := rfl
@[simp] theorem State.assertReset_histShunt (s : State) : s.assertReset.histShunt = Vector.replicate 12 0#10 := rfl
@[simp] theorem State.assertReset_histLowGain (s : State) : s.assertReset.histLowGain = Vector.replicate 12 0#10 := rfl
@[simp] theorem State.assertReset_histHighGain (s : State) : s.assertReset.histHighGain = Vector.replicate 12 0#10 := rfl
@[simp] theorem State.assertReset_cursor (s : State) : s.assertReset.cursor = 0#4 := rfl
@[simp] theorem State.assertReset_accShunt (s : State) : s.assertReset.accShunt = 0#14 := rfl
@[simp] theorem State.assertReset_accLowGain (s : State) : s.assertReset.accLowGain = 0#14 := rfl
@[simp] theorem State.assertReset_accHighGain (s : State) : s.assertReset.accHighGain = 0#14 := rfl
@[simp] theorem State.assertReset_current (s : State) : s.assertReset.current = 0#32 := rfl
@[simp] theorem State.assertReset_voltage (s : State) : s.assertReset.voltage = 0#32 := rfl
@[simp] theorem State.assertReset_power (s : State) : s.assertReset.power = 0#32 := rfl
@[simp] theorem State.assertReset_highGain (s : State) : s.assertReset.highGain = false := rfl
@[simp] theorem State.assertReset_duty (s : State) : s.assertReset.duty = 1025#16 := rfl
@[simp] theorem State.assertReset_mode (s : State) : s.assertReset.mode = .off := rfl
@[simp] theorem State.assertReset_dispMode (s : State) : s.assertReset.dispMode = .volts := rfl
@[simp] theorem State.assertReset_lastOk (s : State) : s.assertReset.lastOk = false := rfl
@[simp] theorem State.assertReset_pendA (s : State) : s.assertReset.pendA = false := rfl
@[simp] theorem State.assertReset_pendB (s : State) : s.assertReset.pendB = false := rfl
@[simp] theorem State.assertReset_target (s : State) : s.assertReset.target = s.cfg.pTargetReset := rfl
@[simp] theorem State.assertReset_lvcut (s : State) : s.assertReset.lvcut = s.cfg.pLvcReset := rfl
@[simp] theorem State.assertReset_fan (s : State) : s.assertReset.fan = false := rfl
@[simp] theorem State.assertReset_led (s : State) : s.assertReset.led = true := rfl
@[simp] theorem State.assertReset_rst (s : State) : s.assertReset.rst = true := rfl
@[simp] theorem State.assertReset_rdata (s : State) : s.assertReset.rdata = 0#32 := rfl
@[simp] theorem State.assertReset_env (s : State) : s.assertReset.env = s.env := rfl
@[simp] theorem State.assertReset_cfg (s : State) : s.assertReset.cfg = s.cfg := rfl
@[simp] theorem State.assertReset_freeUses (s : State) : s.assertReset.freeUses = s.freeUses := rfl

end Sys2Proof.Machine
end

