-- ==== Sys2Proof/Laws/Ops.lean ====
section
/-! SUPPORT. For each shared operation, once, everything it can do. -/

namespace Sys2Proof.Machine

/-! The history store. -/

theorem State.histRead_ok (s : State) (ch : Channel) (i : Nat) (h : i < 12) :
    s.histRead ch i = .ok ((s.ring ch)[i]) := by simp [State.histRead, h]

theorem State.histRead_fault (s : State) (ch : Channel) (i : Nat) (h : 12 ≤ i) :
    s.histRead ch i = .error .faultState := by simp [State.histRead, Nat.not_lt.2 h]

theorem State.histWrite_ok (s : State) (ch : Channel) (i : Nat) (v : RawSample) (h : i < 12) :
    s.histWrite ch i v = .ok (s.setRing ch ((s.ring ch).set i v h)) := by simp [State.histWrite, h]

theorem State.histWrite_fault (s : State) (ch : Channel) (i : Nat) (v : RawSample) (h : 12 ≤ i) :
    s.histWrite ch i v = .error .faultState := by simp [State.histWrite, Nat.not_lt.2 h]

/-- A cell reads as it was written. -/
theorem State.histRead_histWrite_same {s t : State} {ch : Channel} {i : Nat} {v : RawSample}
    (h : s.histWrite ch i v = .ok t) : t.histRead ch i = .ok v := by
  by_cases hi : i < 12
  · rw [State.histWrite_ok s ch i v hi] at h
    cases h
    simp [State.histRead, hi]
  · rw [State.histWrite_fault s ch i v (Nat.not_lt.1 hi)] at h
    cases h

/-- A write leaves every other cell as it was. -/
theorem State.histRead_histWrite_other {s t : State} {ch d : Channel} {i j : Nat} {v : RawSample}
    (h : s.histWrite ch i v = .ok t) (hne : d ≠ ch ∨ j ≠ i) : t.histRead d j = s.histRead d j := by
  by_cases hi : i < 12
  · rw [State.histWrite_ok s ch i v hi] at h
    cases h
    by_cases hd : d = ch
    · subst hd
      have hj : i ≠ j := fun e => hne.elim (fun k => k rfl) (fun k => k e.symm)
      simp only [State.histRead, State.setRing_ring_same]
      split
      · rw [Vector.getElem_set_ne _ _ hj]
      · rfl
    · simp only [State.histRead, State.setRing_ring_other s ch d _ hd]
  · rw [State.histWrite_fault s ch i v (Nat.not_lt.1 hi)] at h
    cases h

/-- SampleInsert, whole: it faults outside the ring, and inside it replaces one cell and the sum. -/
theorem State.sampleInsert_cases (s : State) (ch : Channel) (v : RawSample) :
    (∃ h : s.cursor.toNat < 12, s.sampleInsert ch v =
      .ok ((s.setRing ch ((s.ring ch).set s.cursor.toNat v h)).storeAcc ch
        ((s.acc ch).toNat - ((s.ring ch)[s.cursor.toNat]).toNat + v.toNat : Int))) ∨
    (12 ≤ s.cursor.toNat ∧ s.sampleInsert ch v = .error .faultState) := by
  by_cases h : s.cursor.toNat < 12
  · exact .inl ⟨h, by simp [State.sampleInsert, State.histRead_ok _ _ _ h, State.histWrite_ok _ _ _ _ h]⟩
  · exact .inr ⟨Nat.not_lt.1 h, by simp [State.sampleInsert, State.histRead_fault _ _ _ (Nat.not_lt.1 h)]⟩

/-! The sequencer's gate. -/

theorem State.enabled_iff (s : State) (k : PhaseWord) : s.enabled k = true ↔ s.rst = false ∧ s.phase = k := by
  simp [State.enabled]

theorem phaseOp_enabled {k : PhaseWord} {run : State → Result} {s : State} (hr : s.rst = false) (hp : s.phase = k) :
    phaseOp k run s = run s := by simp [phaseOp, State.enabled, hr, hp]

theorem phaseOp_disabled {k : PhaseWord} {run : State → Result} {s : State} (h : s.enabled k = false) :
    phaseOp k run s = .next s := by simp [phaseOp, h]

/-- A SAMPLE phase, whole: disabled or without a delivery it leaves the state; with one it inserts and finishes, or faults. -/
theorem samplePhase_cases (ch : Channel) (k : PhaseWord) (finish : State → State) (s : State) :
    (s.enabled k = false ∧ samplePhase ch k finish s = .next s) ∨
    (s.enabled k = true ∧ s.adcPort = none ∧ samplePhase ch k finish s = .next s) ∨
    (s.enabled k = true ∧ ∃ c, s.adcPort = some c ∧ 12 ≤ s.cursor.toNat ∧
      samplePhase ch k finish s = .fault .faultState) ∨
    (s.enabled k = true ∧ ∃ c, s.adcPort = some c ∧ ∃ h : s.cursor.toNat < 12,
      samplePhase ch k finish s = .next (finish ((s.setRing ch ((s.ring ch).set s.cursor.toNat c h)).storeAcc ch
        ((s.acc ch).toNat - ((s.ring ch)[s.cursor.toNat]).toNat + c.toNat : Int)))) := by
  by_cases he : s.enabled k = true
  · cases hp : s.adcPort with
    | none => exact .inr (.inl ⟨he, rfl, by simp [samplePhase, phaseOp, he, hp]⟩)
    | some c =>
      obtain ⟨h, hs⟩ | ⟨h, hs⟩ := s.sampleInsert_cases ch c
      · exact .inr (.inr (.inr ⟨he, c, rfl, h, by simp [samplePhase, phaseOp, he, hp, hs]⟩))
      · exact .inr (.inr (.inl ⟨he, c, rfl, h, by simp [samplePhase, phaseOp, he, hp, hs]⟩))
  · exact .inl ⟨by simpa using he, by simp [samplePhase, phaseOp, he]⟩

/-! ChangeMode. -/

theorem legalTransition_iff (m n : Mode) : legalTransition m n = true ↔
    (m = .off ∧ n = .on) ∨ (m = .on ∧ n = .off) ∨ (m = .on ∧ n = .lvc) ∨ (m = .lvc ∧ n = .off) := by
  cases m <;> cases n <;> simp [legalTransition]

theorem State.changeMode_legal {s : State} {new : Mode} (h : legalTransition s.mode new = true) :
    s.changeMode new =
      ({ s with duty := if s.mode = .on then 1025#16 else s.duty, mode := new, lastOk := true }, true) := by
  simp only [State.changeMode, h, if_true]
  split <;> simp [State.setDuty, State.setMode, State.setLastOk, *]

theorem State.changeMode_rejected {s : State} {new : Mode} (h : legalTransition s.mode new = false) :
    s.changeMode new = ({ s with lastOk := false }, false) := by
  simp [State.changeMode, h, State.setLastOk]

/-! Answers. -/

theorem thenNext_next {f : State → State} {r : Result} {t : State} (h : thenNext f r = .next t) :
    ∃ u, r = .next u ∧ t = f u := by
  cases r with
  | next u => exact ⟨u, rfl, by simpa [thenNext] using h.symm⟩
  | fault _ => cases h
  | refused _ => cases h

@[simp] theorem thenNext_of_next (f : State → State) (u : State) : thenNext f (.next u) = .next (f u) := rfl

@[simp] theorem State.settle_out (s : State) (h : s.rst = false) : s.settle = s := by simp [State.settle, h]

theorem State.settle_in (s : State) (h : s.rst = true) : s.settle = s.assertReset := by simp [State.settle, h]

@[simp] theorem State.settle_cfg (s : State) : s.settle.cfg = s.cfg := by
  unfold State.settle; split <;> rfl

@[simp] theorem State.settle_env (s : State) : s.settle.env = s.env := by
  unfold State.settle; split <;> rfl

@[simp] theorem State.settle_rst (s : State) : s.settle.rst = s.rst := by
  unfold State.settle; split <;> simp_all

end Sys2Proof.Machine
end

