-- ==== Sys2Proof/Laws/PerInstr.lean ====
section
/-! SUPPORT. The per-instruction family TableRow: the encoder's word has the row's fixed bits of spec/opcode_table.json. -/

namespace Sys2Proof.Laws

/-- A row's mask and match, as spec/opcode_table.json writes them (30_encoding.md R84, R85). -/
def rowMaskMatch : Instr → Nat × Nat
  | .sampleSh => (0x7, 0x0)
  | .sampleLg => (0x7, 0x1)
  | .sampleHg => (0x7, 0x2)
  | .derive => (0x7, 0x3)
  | .protect => (0x7, 0x4)
  | .mode => (0x7, 0x5)
  | .regulate => (0x7, 0x6)
  | .handoff => (0x7, 0x7)
  | .rd _ => (0x1000000000, 0x0)
  | .wr _ _ => (0x1000000000, 0x1000000000)

/-- A code word as a number. -/
def wordNat : CodeWord → Nat
  | .p ppp => ppp.toNat
  | .h w => w.toNat

/-- WE of a word built from its fields. -/
theorem hostWe_hostWord (we : BitVec 1) (a : BitVec 4) (d : Word) : (hostWord we a d).getLsbD 36 = we.getLsbD 0 := by
  simp only [hostWord, BitVec.getLsbD_append]; simp

theorem and_bit36_of_set (w : HostWord) (h : w.getLsbD 36 = true) : w.toNat &&& 0x1000000000 = 0x1000000000 := by
  have : w &&& 0x1000000000#37 = 0x1000000000#37 := by
    apply BitVec.eq_of_getLsbD_eq
    intro i hi
    rw [BitVec.getLsbD_and, show (0x1000000000#37) = BitVec.twoPow 37 36 from rfl, BitVec.getLsbD_twoPow]
    by_cases e : i = 36
    · subst e; simp [h]
    · simp [Ne.symm e]
  simpa using congrArg BitVec.toNat this

theorem and_bit36_of_clear (w : HostWord) (h : w.getLsbD 36 = false) : w.toNat &&& 0x1000000000 = 0 := by
  have : w &&& 0x1000000000#37 = 0#37 := by
    apply BitVec.eq_of_getLsbD_eq
    intro i hi
    rw [BitVec.getLsbD_and, show (0x1000000000#37) = BitVec.twoPow 37 36 from rfl, BitVec.getLsbD_twoPow]
    by_cases e : i = 36
    · subst e; rw [h]; simp
    · simp [Ne.symm e]
  simpa using congrArg BitVec.toNat this

/-- The encoded word carries its row's fixed bits. -/
def TableRow.Statement (i : Instr) : Prop := wordNat (encode i) &&& (rowMaskMatch i).1 = (rowMaskMatch i).2

theorem TableRow.sampleSh : TableRow.Statement .sampleSh := by unfold TableRow.Statement; decide
theorem TableRow.sampleLg : TableRow.Statement .sampleLg := by unfold TableRow.Statement; decide
theorem TableRow.sampleHg : TableRow.Statement .sampleHg := by unfold TableRow.Statement; decide
theorem TableRow.derive : TableRow.Statement .derive := by unfold TableRow.Statement; decide
theorem TableRow.protect : TableRow.Statement .protect := by unfold TableRow.Statement; decide
theorem TableRow.mode : TableRow.Statement .mode := by unfold TableRow.Statement; decide
theorem TableRow.regulate : TableRow.Statement .regulate := by unfold TableRow.Statement; decide
theorem TableRow.handoff : TableRow.Statement .handoff := by unfold TableRow.Statement; decide
theorem TableRow.rd (a : BitVec 4) : TableRow.Statement (.rd a) :=
  and_bit36_of_clear _ (hostWe_hostWord 0 a 0)
theorem TableRow.wr (a : BitVec 4) (d : Word) : TableRow.Statement (.wr a d) :=
  and_bit36_of_set _ (hostWe_hostWord 1 a d)

end Sys2Proof.Laws
end

