-- ==== Sys2Proof/Laws/Step.lean ====
section
/-! SUPPORT. What each meaning and a step can do, said once; later proofs cite these and unfold nothing. -/

namespace Sys2Proof.Machine

theorem exec_derive_enabled {s : State} (hr : s.rst = false) (hp : s.phase = 3#3) :
    exec .derive s = if admitted s.cfg then .next s.measure.advance else .refused .refuseCfg := by
  simp [exec, execDerive, phaseOp_enabled hr hp]

theorem exec_protect_enabled {s : State} (hr : s.rst = false) (hp : s.phase = 4#3) :
    exec .protect s = .next (s.setFan (fanTrip s.power)).advance := by
  simp [exec, execProtect, phaseOp_enabled hr hp]

theorem exec_mode_enabled {s : State} (hr : s.rst = false) (hp : s.phase = 5#3) :
    exec .mode s = .next s.buttonA.buttonB.advance := by
  simp [exec, execMode, phaseOp_enabled hr hp]

theorem exec_regulate_enabled {s : State} (hr : s.rst = false) (hp : s.phase = 6#3) :
    exec .regulate s = .next s.regulateDuty.advance := by
  simp [exec, execRegulate, phaseOp_enabled hr hp]

theorem exec_handoff_enabled {s : State} (hr : s.rst = false) (hp : s.phase = 7#3) :
    exec .handoff s = .next (if s.dispAck then s.advance else s) := by
  simp only [exec, execHandoff, phaseOp_enabled hr hp]
  split <;> rfl

/-- A step that answers a next state: the configuration is admitted, and the turn ran a code word or was bare. -/
theorem step_next_cases {s t : State} (h : step s = .next t) :
    admitted s.cfg = true ∧
    ((∃ w u, s.settle.fetch = some w ∧ exec (decodeWord w) s.settle = .next u ∧ t = u.dropTurn) ∨
     (s.settle.fetch = none ∧ t = s.settle.bareTurn.dropTurn)) := by
  unfold step at h
  split at h
  · refine ⟨‹_›, ?_⟩
    unfold takeTurn at h
    split at h
    · obtain ⟨u, hu, rfl⟩ := thenNext_next h
      exact .inl ⟨_, u, ‹_›, hu, rfl⟩
    · exact .inr ⟨‹_›, by simpa using h.symm⟩
  · cases h


/-! What the measurement leaves: DERIVE writes only the measurement (41_deriver.md R125). -/

@[simp] theorem State.measure_phase (s : State) : s.measure.phase = s.phase := by
  unfold State.measure State.selectVoltage; split <;> rfl
@[simp] theorem State.measure_histShunt (s : State) : s.measure.histShunt = s.histShunt := by
  unfold State.measure State.selectVoltage; split <;> rfl
@[simp] theorem State.measure_histLowGain (s : State) : s.measure.histLowGain = s.histLowGain := by
  unfold State.measure State.selectVoltage; split <;> rfl
@[simp] theorem State.measure_histHighGain (s : State) : s.measure.histHighGain = s.histHighGain := by
  unfold State.measure State.selectVoltage; split <;> rfl
@[simp] theorem State.measure_cursor (s : State) : s.measure.cursor = s.cursor := by
  unfold State.measure State.selectVoltage; split <;> rfl
@[simp] theorem State.measure_accShunt (s : State) : s.measure.accShunt = s.accShunt := by
  unfold State.measure State.selectVoltage; split <;> rfl
@[simp] theorem State.measure_accLowGain (s : State) : s.measure.accLowGain = s.accLowGain := by
  unfold State.measure State.selectVoltage; split <;> rfl
@[simp] theorem State.measure_accHighGain (s : State) : s.measure.accHighGain = s.accHighGain := by
  unfold State.measure State.selectVoltage; split <;> rfl
@[simp] theorem State.measure_duty (s : State) : s.measure.duty = s.duty := by
  unfold State.measure State.selectVoltage; split <;> rfl
@[simp] theorem State.measure_mode (s : State) : s.measure.mode = s.mode := by
  unfold State.measure State.selectVoltage; split <;> rfl
@[simp] theorem State.measure_dispMode (s : State) : s.measure.dispMode = s.dispMode := by
  unfold State.measure State.selectVoltage; split <;> rfl
@[simp] theorem State.measure_lastOk (s : State) : s.measure.lastOk = s.lastOk := by
  unfold State.measure State.selectVoltage; split <;> rfl
@[simp] theorem State.measure_pendA (s : State) : s.measure.pendA = s.pendA := by
  unfold State.measure State.selectVoltage; split <;> rfl
@[simp] theorem State.measure_pendB (s : State) : s.measure.pendB = s.pendB := by
  unfold State.measure State.selectVoltage; split <;> rfl
@[simp] theorem State.measure_target (s : State) : s.measure.target = s.target := by
  unfold State.measure State.selectVoltage; split <;> rfl
@[simp] theorem State.measure_lvcut (s : State) : s.measure.lvcut = s.lvcut := by
  unfold State.measure State.selectVoltage; split <;> rfl
@[simp] theorem State.measure_fan (s : State) : s.measure.fan = s.fan := by
  unfold State.measure State.selectVoltage; split <;> rfl
@[simp] theorem State.measure_led (s : State) : s.measure.led = s.led := by
  unfold State.measure State.selectVoltage; split <;> rfl
@[simp] theorem State.measure_rst (s : State) : s.measure.rst = s.rst := by
  unfold State.measure State.selectVoltage; split <;> rfl
@[simp] theorem State.measure_rdata (s : State) : s.measure.rdata = s.rdata := by
  unfold State.measure State.selectVoltage; split <;> rfl
@[simp] theorem State.measure_env (s : State) : s.measure.env = s.env := by
  unfold State.measure State.selectVoltage; split <;> rfl
@[simp] theorem State.measure_cfg (s : State) : s.measure.cfg = s.cfg := by
  unfold State.measure State.selectVoltage; split <;> rfl

/-! What ChangeMode, the buttons and the regulator leave. -/

@[simp] theorem State.changeMode_phase (s : State) (m : Mode) : (s.changeMode m).1.phase = s.phase := by
  unfold State.changeMode; split <;> (try split) <;> rfl
@[simp] theorem State.changeMode_histShunt (s : State) (m : Mode) : (s.changeMode m).1.histShunt = s.histShunt := by
  unfold State.changeMode; split <;> (try split) <;> rfl
@[simp] theorem State.changeMode_histLowGain (s : State) (m : Mode) : (s.changeMode m).1.histLowGain = s.histLowGain := by
  unfold State.changeMode; split <;> (try split) <;> rfl
@[simp] theorem State.changeMode_histHighGain (s : State) (m : Mode) : (s.changeMode m).1.histHighGain = s.histHighGain := by
  unfold State.changeMode; split <;> (try split) <;> rfl
@[simp] theorem State.changeMode_cursor (s : State) (m : Mode) : (s.changeMode m).1.cursor = s.cursor := by
  unfold State.changeMode; split <;> (try split) <;> rfl
@[simp] theorem State.changeMode_accShunt (s : State) (m : Mode) : (s.changeMode m).1.accShunt = s.accShunt := by
  unfold State.changeMode; split <;> (try split) <;> rfl
@[simp] theorem State.changeMode_accLowGain (s : State) (m : Mode) : (s.changeMode m).1.accLowGain = s.accLowGain := by
  unfold State.changeMode; split <;> (try split) <;> rfl
@[simp] theorem State.changeMode_accHighGain (s : State) (m : Mode) : (s.changeMode m).1.accHighGain = s.accHighGain := by
  unfold State.changeMode; split <;> (try split) <;> rfl
@[simp] theorem State.changeMode_current (s : State) (m : Mode) : (s.changeMode m).1.current = s.current := by
  unfold State.changeMode; split <;> (try split) <;> rfl
@[simp] theorem State.changeMode_voltage (s : State) (m : Mode) : (s.changeMode m).1.voltage = s.voltage := by
  unfold State.changeMode; split <;> (try split) <;> rfl
@[simp] theorem State.changeMode_power (s : State) (m : Mode) : (s.changeMode m).1.power = s.power := by
  unfold State.changeMode; split <;> (try split) <;> rfl
@[simp] theorem State.changeMode_highGain (s : State) (m : Mode) : (s.changeMode m).1.highGain = s.highGain := by
  unfold State.changeMode; split <;> (try split) <;> rfl
@[simp] theorem State.changeMode_dispMode (s : State) (m : Mode) : (s.changeMode m).1.dispMode = s.dispMode := by
  unfold State.changeMode; split <;> (try split) <;> rfl
@[simp] theorem State.changeMode_pendA (s : State) (m : Mode) : (s.changeMode m).1.pendA = s.pendA := by
  unfold State.changeMode; split <;> (try split) <;> rfl
@[simp] theorem State.changeMode_pendB (s : State) (m : Mode) : (s.changeMode m).1.pendB = s.pendB := by
  unfold State.changeMode; split <;> (try split) <;> rfl
@[simp] theorem State.changeMode_target (s : State) (m : Mode) : (s.changeMode m).1.target = s.target := by
  unfold State.changeMode; split <;> (try split) <;> rfl
@[simp] theorem State.changeMode_lvcut (s : State) (m : Mode) : (s.changeMode m).1.lvcut = s.lvcut := by
  unfold State.changeMode; split <;> (try split) <;> rfl
@[simp] theorem State.changeMode_fan (s : State) (m : Mode) : (s.changeMode m).1.fan = s.fan := by
  unfold State.changeMode; split <;> (try split) <;> rfl
@[simp] theorem State.changeMode_led (s : State) (m : Mode) : (s.changeMode m).1.led = s.led := by
  unfold State.changeMode; split <;> (try split) <;> rfl
@[simp] theorem State.changeMode_rst (s : State) (m : Mode) : (s.changeMode m).1.rst = s.rst := by
  unfold State.changeMode; split <;> (try split) <;> rfl
@[simp] theorem State.changeMode_rdata (s : State) (m : Mode) : (s.changeMode m).1.rdata = s.rdata := by
  unfold State.changeMode; split <;> (try split) <;> rfl
@[simp] theorem State.changeMode_env (s : State) (m : Mode) : (s.changeMode m).1.env = s.env := by
  unfold State.changeMode; split <;> (try split) <;> rfl
@[simp] theorem State.changeMode_cfg (s : State) (m : Mode) : (s.changeMode m).1.cfg = s.cfg := by
  unfold State.changeMode; split <;> (try split) <;> rfl
@[simp] theorem State.changeMode_freeUses (s : State) (m : Mode) : (s.changeMode m).1.freeUses = s.freeUses := by
  unfold State.changeMode; split <;> (try split) <;> rfl

@[simp] theorem State.buttonA_phase (s : State) : s.buttonA.phase = s.phase := by
  unfold State.buttonA; split <;> (try split) <;> simp
@[simp] theorem State.buttonA_histShunt (s : State) : s.buttonA.histShunt = s.histShunt := by
  unfold State.buttonA; split <;> (try split) <;> simp
@[simp] theorem State.buttonA_histLowGain (s : State) : s.buttonA.histLowGain = s.histLowGain := by
  unfold State.buttonA; split <;> (try split) <;> simp
@[simp] theorem State.buttonA_histHighGain (s : State) : s.buttonA.histHighGain = s.histHighGain := by
  unfold State.buttonA; split <;> (try split) <;> simp
@[simp] theorem State.buttonA_cursor (s : State) : s.buttonA.cursor = s.cursor := by
  unfold State.buttonA; split <;> (try split) <;> simp
@[simp] theorem State.buttonA_accShunt (s : State) : s.buttonA.accShunt = s.accShunt := by
  unfold State.buttonA; split <;> (try split) <;> simp
@[simp] theorem State.buttonA_accLowGain (s : State) : s.buttonA.accLowGain = s.accLowGain := by
  unfold State.buttonA; split <;> (try split) <;> simp
@[simp] theorem State.buttonA_accHighGain (s : State) : s.buttonA.accHighGain = s.accHighGain := by
  unfold State.buttonA; split <;> (try split) <;> simp
@[simp] theorem State.buttonA_current (s : State) : s.buttonA.current = s.current := by
  unfold State.buttonA; split <;> (try split) <;> simp
@[simp] theorem State.buttonA_voltage (s : State) : s.buttonA.voltage = s.voltage := by
  unfold State.buttonA; split <;> (try split) <;> simp
@[simp] theorem State.buttonA_power (s : State) : s.buttonA.power = s.power := by
  unfold State.buttonA; split <;> (try split) <;> simp
@[simp] theorem State.buttonA_highGain (s : State) : s.buttonA.highGain = s.highGain := by
  unfold State.buttonA; split <;> (try split) <;> simp
@[simp] theorem State.buttonA_dispMode (s : State) : s.buttonA.dispMode = s.dispMode := by
  unfold State.buttonA; split <;> (try split) <;> simp
@[simp] theorem State.buttonA_pendB (s : State) : s.buttonA.pendB = s.pendB := by
  unfold State.buttonA; split <;> (try split) <;> simp
@[simp] theorem State.buttonA_target (s : State) : s.buttonA.target = s.target := by
  unfold State.buttonA; split <;> (try split) <;> simp
@[simp] theorem State.buttonA_lvcut (s : State) : s.buttonA.lvcut = s.lvcut := by
  unfold State.buttonA; split <;> (try split) <;> simp
@[simp] theorem State.buttonA_fan (s : State) : s.buttonA.fan = s.fan := by
  unfold State.buttonA; split <;> (try split) <;> simp
@[simp] theorem State.buttonA_led (s : State) : s.buttonA.led = s.led := by
  unfold State.buttonA; split <;> (try split) <;> simp
@[simp] theorem State.buttonA_rst (s : State) : s.buttonA.rst = s.rst := by
  unfold State.buttonA; split <;> (try split) <;> simp
@[simp] theorem State.buttonA_rdata (s : State) : s.buttonA.rdata = s.rdata := by
  unfold State.buttonA; split <;> (try split) <;> simp
@[simp] theorem State.buttonA_env (s : State) : s.buttonA.env = s.env := by
  unfold State.buttonA; split <;> (try split) <;> simp
@[simp] theorem State.buttonA_cfg (s : State) : s.buttonA.cfg = s.cfg := by
  unfold State.buttonA; split <;> (try split) <;> simp
@[simp] theorem State.buttonA_freeUses (s : State) : s.buttonA.freeUses = s.freeUses := by
  unfold State.buttonA; split <;> (try split) <;> simp

@[simp] theorem State.buttonB_phase (s : State) : s.buttonB.phase = s.phase := by
  unfold State.buttonB; split <;> (try split) <;> simp
@[simp] theorem State.buttonB_histShunt (s : State) : s.buttonB.histShunt = s.histShunt := by
  unfold State.buttonB; split <;> (try split) <;> simp
@[simp] theorem State.buttonB_histLowGain (s : State) : s.buttonB.histLowGain = s.histLowGain := by
  unfold State.buttonB; split <;> (try split) <;> simp
@[simp] theorem State.buttonB_histHighGain (s : State) : s.buttonB.histHighGain = s.histHighGain := by
  unfold State.buttonB; split <;> (try split) <;> simp
@[simp] theorem State.buttonB_cursor (s : State) : s.buttonB.cursor = s.cursor := by
  unfold State.buttonB; split <;> (try split) <;> simp
@[simp] theorem State.buttonB_accShunt (s : State) : s.buttonB.accShunt = s.accShunt := by
  unfold State.buttonB; split <;> (try split) <;> simp
@[simp] theorem State.buttonB_accLowGain (s : State) : s.buttonB.accLowGain = s.accLowGain := by
  unfold State.buttonB; split <;> (try split) <;> simp
@[simp] theorem State.buttonB_accHighGain (s : State) : s.buttonB.accHighGain = s.accHighGain := by
  unfold State.buttonB; split <;> (try split) <;> simp
@[simp] theorem State.buttonB_current (s : State) : s.buttonB.current = s.current := by
  unfold State.buttonB; split <;> (try split) <;> simp
@[simp] theorem State.buttonB_voltage (s : State) : s.buttonB.voltage = s.voltage := by
  unfold State.buttonB; split <;> (try split) <;> simp
@[simp] theorem State.buttonB_power (s : State) : s.buttonB.power = s.power := by
  unfold State.buttonB; split <;> (try split) <;> simp
@[simp] theorem State.buttonB_highGain (s : State) : s.buttonB.highGain = s.highGain := by
  unfold State.buttonB; split <;> (try split) <;> simp
@[simp] theorem State.buttonB_pendA (s : State) : s.buttonB.pendA = s.pendA := by
  unfold State.buttonB; split <;> (try split) <;> simp
@[simp] theorem State.buttonB_target (s : State) : s.buttonB.target = s.target := by
  unfold State.buttonB; split <;> (try split) <;> simp
@[simp] theorem State.buttonB_lvcut (s : State) : s.buttonB.lvcut = s.lvcut := by
  unfold State.buttonB; split <;> (try split) <;> simp
@[simp] theorem State.buttonB_fan (s : State) : s.buttonB.fan = s.fan := by
  unfold State.buttonB; split <;> (try split) <;> simp
@[simp] theorem State.buttonB_led (s : State) : s.buttonB.led = s.led := by
  unfold State.buttonB; split <;> (try split) <;> simp
@[simp] theorem State.buttonB_rst (s : State) : s.buttonB.rst = s.rst := by
  unfold State.buttonB; split <;> (try split) <;> simp
@[simp] theorem State.buttonB_rdata (s : State) : s.buttonB.rdata = s.rdata := by
  unfold State.buttonB; split <;> (try split) <;> simp
@[simp] theorem State.buttonB_env (s : State) : s.buttonB.env = s.env := by
  unfold State.buttonB; split <;> (try split) <;> simp
@[simp] theorem State.buttonB_cfg (s : State) : s.buttonB.cfg = s.cfg := by
  unfold State.buttonB; split <;> (try split) <;> simp
@[simp] theorem State.buttonB_freeUses (s : State) : s.buttonB.freeUses = s.freeUses := by
  unfold State.buttonB; split <;> (try split) <;> simp

@[simp] theorem State.regulateDuty_phase (s : State) : s.regulateDuty.phase = s.phase := by
  unfold State.regulateDuty; split <;> (try split) <;> (try split) <;> (try split) <;> simp
@[simp] theorem State.regulateDuty_histShunt (s : State) : s.regulateDuty.histShunt = s.histShunt := by
  unfold State.regulateDuty; split <;> (try split) <;> (try split) <;> (try split) <;> simp
@[simp] theorem State.regulateDuty_histLowGain (s : State) : s.regulateDuty.histLowGain = s.histLowGain := by
  unfold State.regulateDuty; split <;> (try split) <;> (try split) <;> (try split) <;> simp
@[simp] theorem State.regulateDuty_histHighGain (s : State) : s.regulateDuty.histHighGain = s.histHighGain := by
  unfold State.regulateDuty; split <;> (try split) <;> (try split) <;> (try split) <;> simp
@[simp] theorem State.regulateDuty_cursor (s : State) : s.regulateDuty.cursor = s.cursor := by
  unfold State.regulateDuty; split <;> (try split) <;> (try split) <;> (try split) <;> simp
@[simp] theorem State.regulateDuty_accShunt (s : State) : s.regulateDuty.accShunt = s.accShunt := by
  unfold State.regulateDuty; split <;> (try split) <;> (try split) <;> (try split) <;> simp
@[simp] theorem State.regulateDuty_accLowGain (s : State) : s.regulateDuty.accLowGain = s.accLowGain := by
  unfold State.regulateDuty; split <;> (try split) <;> (try split) <;> (try split) <;> simp
@[simp] theorem State.regulateDuty_accHighGain (s : State) : s.regulateDuty.accHighGain = s.accHighGain := by
  unfold State.regulateDuty; split <;> (try split) <;> (try split) <;> (try split) <;> simp
@[simp] theorem State.regulateDuty_current (s : State) : s.regulateDuty.current = s.current := by
  unfold State.regulateDuty; split <;> (try split) <;> (try split) <;> (try split) <;> simp
@[simp] theorem State.regulateDuty_voltage (s : State) : s.regulateDuty.voltage = s.voltage := by
  unfold State.regulateDuty; split <;> (try split) <;> (try split) <;> (try split) <;> simp
@[simp] theorem State.regulateDuty_power (s : State) : s.regulateDuty.power = s.power := by
  unfold State.regulateDuty; split <;> (try split) <;> (try split) <;> (try split) <;> simp
@[simp] theorem State.regulateDuty_highGain (s : State) : s.regulateDuty.highGain = s.highGain := by
  unfold State.regulateDuty; split <;> (try split) <;> (try split) <;> (try split) <;> simp
@[simp] theorem State.regulateDuty_dispMode (s : State) : s.regulateDuty.dispMode = s.dispMode := by
  unfold State.regulateDuty; split <;> (try split) <;> (try split) <;> (try split) <;> simp
@[simp] theorem State.regulateDuty_pendA (s : State) : s.regulateDuty.pendA = s.pendA := by
  unfold State.regulateDuty; split <;> (try split) <;> (try split) <;> (try split) <;> simp
@[simp] theorem State.regulateDuty_pendB (s : State) : s.regulateDuty.pendB = s.pendB := by
  unfold State.regulateDuty; split <;> (try split) <;> (try split) <;> (try split) <;> simp
@[simp] theorem State.regulateDuty_target (s : State) : s.regulateDuty.target = s.target := by
  unfold State.regulateDuty; split <;> (try split) <;> (try split) <;> (try split) <;> simp
@[simp] theorem State.regulateDuty_lvcut (s : State) : s.regulateDuty.lvcut = s.lvcut := by
  unfold State.regulateDuty; split <;> (try split) <;> (try split) <;> (try split) <;> simp
@[simp] theorem State.regulateDuty_fan (s : State) : s.regulateDuty.fan = s.fan := by
  unfold State.regulateDuty; split <;> (try split) <;> (try split) <;> (try split) <;> simp
@[simp] theorem State.regulateDuty_led (s : State) : s.regulateDuty.led = s.led := by
  unfold State.regulateDuty; split <;> (try split) <;> (try split) <;> (try split) <;> simp
@[simp] theorem State.regulateDuty_rst (s : State) : s.regulateDuty.rst = s.rst := by
  unfold State.regulateDuty; split <;> (try split) <;> (try split) <;> (try split) <;> simp
@[simp] theorem State.regulateDuty_rdata (s : State) : s.regulateDuty.rdata = s.rdata := by
  unfold State.regulateDuty; split <;> (try split) <;> (try split) <;> (try split) <;> simp
@[simp] theorem State.regulateDuty_env (s : State) : s.regulateDuty.env = s.env := by
  unfold State.regulateDuty; split <;> (try split) <;> (try split) <;> (try split) <;> simp
@[simp] theorem State.regulateDuty_cfg (s : State) : s.regulateDuty.cfg = s.cfg := by
  unfold State.regulateDuty; split <;> (try split) <;> (try split) <;> (try split) <;> simp
@[simp] theorem State.regulateDuty_freeUses (s : State) : s.regulateDuty.freeUses = s.freeUses := by
  unfold State.regulateDuty; split <;> (try split) <;> (try split) <;> (try split) <;> simp

/-- A host WRITE reaches TARGET, LVCUT or nothing. -/
theorem State.hostWrite_cases (s : State) (a : BitVec 4) (d : Word) :
    s.hostWrite a d = s ∨ (a = 1#4 ∧ s.hostWrite a d = s.setTarget d) ∨ (a = 2#4 ∧ s.hostWrite a d = s.setLvcut d) := by
  unfold State.hostWrite
  split
  · exact .inr (.inl ⟨BitVec.eq_of_toNat_eq ‹_›, rfl⟩)
  · exact .inr (.inr ⟨BitVec.eq_of_toNat_eq ‹_›, rfl⟩)
  · exact .inl rfl

/-- What a step out of reset can do, whole: one constructor per kind of turn that answers a next state. -/
inductive Move (s : State) : State → Prop where
  /-- SEQ's turn in a hold: a SAMPLE phase without a delivery, or HANDOFF without an acknowledge. -/
  | hold (adc : Option RawSample) (ack : Bool) (ht : s.turn = .seq adc ack)
      (hh : (s.phase.toNat ≤ 2 ∧ adc = none) ∨ (s.phase = 7#3 ∧ ack = false)) : Move s s.dropTurn
  /-- `sample.sh` with its delivery. -/
  | sampleSh (c : RawSample) (ack : Bool) (ht : s.turn = .seq (some c) ack) (hp : s.phase = 0#3)
      (h : s.cursor.toNat < 12) :
      Move s ((s.setRing .shunt (s.histShunt.set s.cursor.toNat c h)).storeAcc .shunt
        (s.accShunt.toNat - (s.histShunt[s.cursor.toNat]).toNat + c.toNat : Int)).advance.dropTurn
  /-- `sample.lg` with its delivery. -/
  | sampleLg (c : RawSample) (ack : Bool) (ht : s.turn = .seq (some c) ack) (hp : s.phase = 1#3)
      (h : s.cursor.toNat < 12) :
      Move s ((s.setRing .lowGain (s.histLowGain.set s.cursor.toNat c h)).storeAcc .lowGain
        (s.accLowGain.toNat - (s.histLowGain[s.cursor.toNat]).toNat + c.toNat : Int)).advance.dropTurn
  /-- `sample.hg` with its delivery. -/
  | sampleHg (c : RawSample) (ack : Bool) (ht : s.turn = .seq (some c) ack) (hp : s.phase = 2#3)
      (h : s.cursor.toNat < 12) :
      Move s ((s.setRing .highGain (s.histHighGain.set s.cursor.toNat c h)).storeAcc .highGain
        (s.accHighGain.toNat - (s.histHighGain[s.cursor.toNat]).toNat + c.toNat : Int)).advanceCursor.advance.dropTurn
  /-- `derive`. -/
  | derive (adc : Option RawSample) (ack : Bool) (ht : s.turn = .seq adc ack) (hp : s.phase = 3#3) :
      Move s s.measure.advance.dropTurn
  /-- `protect`. -/
  | protect (adc : Option RawSample) (ack : Bool) (ht : s.turn = .seq adc ack) (hp : s.phase = 4#3) :
      Move s (s.setFan (fanTrip s.power)).advance.dropTurn
  /-- `mode`. -/
  | mode (adc : Option RawSample) (ack : Bool) (ht : s.turn = .seq adc ack) (hp : s.phase = 5#3) :
      Move s s.buttonA.buttonB.advance.dropTurn
  /-- `regulate`. -/
  | regulate (adc : Option RawSample) (ack : Bool) (ht : s.turn = .seq adc ack) (hp : s.phase = 6#3) :
      Move s s.regulateDuty.advance.dropTurn
  /-- `handoff` with its acknowledge. -/
  | handoff (adc : Option RawSample) (ht : s.turn = .seq adc true) (hp : s.phase = 7#3) : Move s s.advance.dropTurn
  /-- A host READ. -/
  | rd (w : HostWord) (a : BitVec 4) (ht : s.turn = .host w) (hw : decodeWord (.h w) = .rd a) :
      Move s (s.setRdata (s.hostRead a)).dropTurn
  /-- A host WRITE. -/
  | wr (w : HostWord) (a : BitVec 4) (d : Word) (ht : s.turn = .host w) (hw : decodeWord (.h w) = .wr a d) :
      Move s (s.hostWrite a d).dropTurn
  /-- `press a`. -/
  | pressA (ht : s.turn = .pressA) : Move s (s.setPendA true).dropTurn
  /-- `press b`. -/
  | pressB (ht : s.turn = .pressB) : Move s (s.setPendB true).dropTurn
  /-- The release of a pin that is not asserted. -/
  | release (ht : s.turn = .rstRelease) : Move s s.dropTurn

/-- The eight values of PHASE. -/
theorem phase_cases (p : PhaseWord) :
    p = 0#3 ∨ p = 1#3 ∨ p = 2#3 ∨ p = 3#3 ∨ p = 4#3 ∨ p = 5#3 ∨ p = 6#3 ∨ p = 7#3 := by
  revert p; decide

theorem State.adcPort_seq {s : State} {adc : Option RawSample} {ack : Bool} (h : s.turn = .seq adc ack) :
    s.adcPort = adc := by simp [State.adcPort, h]

theorem State.dispAck_seq {s : State} {adc : Option RawSample} {ack : Bool} (h : s.turn = .seq adc ack) :
    s.dispAck = ack := by simp [State.dispAck, h]

/-- A host word decodes to a READ or a WRITE, never to a phase. -/
theorem decodeHost_cases (w : HostWord) :
    (∃ a, decodeWord (.h w) = .rd a) ∨ (∃ a d, decodeWord (.h w) = .wr a d) := by
  simp only [decodeWord, decodeHost]
  split
  · exact .inr ⟨_, _, rfl⟩
  · exact .inl ⟨_, rfl⟩

/-- SEQ's turn out of reset. -/
theorem move_of_seq {s u : State} {adc : Option RawSample} {ack : Bool} (hr : s.rst = false)
    (ht : s.turn = .seq adc ack) (he : exec (decodeWord (.p s.phase)) s = .next u) : Move s u.dropTurn := by
  have hadc := State.adcPort_seq ht
  have hack := State.dispAck_seq ht
  rcases phase_cases s.phase with hp | hp | hp | hp | hp | hp | hp | hp <;> rw [hp] at he
  · change samplePhase .shunt 0#3 (fun t => t.advance) s = _ at he
    rcases samplePhase_cases .shunt 0#3 (fun t => t.advance) s with
      ⟨h, q⟩ | ⟨_, h, q⟩ | ⟨_, c, _, _, q⟩ | ⟨_, c, hc, hlt, q⟩ <;> rw [q] at he <;> cases he
    · simp [State.enabled, hr, hp] at h
    · exact .hold adc ack ht (.inl ⟨by simp [hp], by rw [← hadc, h]⟩)
    · exact .sampleSh c ack (by rw [ht, ← hadc, hc]) hp hlt
  · change samplePhase .lowGain 1#3 (fun t => t.advance) s = _ at he
    rcases samplePhase_cases .lowGain 1#3 (fun t => t.advance) s with
      ⟨h, q⟩ | ⟨_, h, q⟩ | ⟨_, c, _, _, q⟩ | ⟨_, c, hc, hlt, q⟩ <;> rw [q] at he <;> cases he
    · simp [State.enabled, hr, hp] at h
    · exact .hold adc ack ht (.inl ⟨by simp [hp], by rw [← hadc, h]⟩)
    · exact .sampleLg c ack (by rw [ht, ← hadc, hc]) hp hlt
  · change samplePhase .highGain 2#3 (fun t => t.advanceCursor.advance) s = _ at he
    rcases samplePhase_cases .highGain 2#3 (fun t => t.advanceCursor.advance) s with
      ⟨h, q⟩ | ⟨_, h, q⟩ | ⟨_, c, _, _, q⟩ | ⟨_, c, hc, hlt, q⟩ <;> rw [q] at he <;> cases he
    · simp [State.enabled, hr, hp] at h
    · exact .hold adc ack ht (.inl ⟨by simp [hp], by rw [← hadc, h]⟩)
    · exact .sampleHg c ack (by rw [ht, ← hadc, hc]) hp hlt
  · change exec .derive s = _ at he
    rw [exec_derive_enabled hr hp] at he
    split at he
    · cases he; exact .derive adc ack ht hp
    · cases he
  · change exec .protect s = _ at he
    rw [exec_protect_enabled hr hp] at he
    cases he; exact .protect adc ack ht hp
  · change exec .mode s = _ at he
    rw [exec_mode_enabled hr hp] at he
    cases he; exact .mode adc ack ht hp
  · change exec .regulate s = _ at he
    rw [exec_regulate_enabled hr hp] at he
    cases he; exact .regulate adc ack ht hp
  · change exec .handoff s = _ at he
    rw [exec_handoff_enabled hr hp, hack] at he
    cases ack
    · cases he; exact .hold adc false ht (.inr ⟨hp, rfl⟩)
    · cases he; exact .handoff adc ht hp

/-- Every step out of reset is one of the moves. -/
theorem move_of_step {s t : State} (hr : s.rst = false) (hn : s.turn ≠ .rstAssert) (h : step s = .next t) :
    Move s t := by
  obtain ⟨_, ⟨w, u, hf, he, rfl⟩ | ⟨hf, rfl⟩⟩ := step_next_cases h
  · rw [State.settle_out s hr] at hf he
    cases ht : s.turn with
    | seq adc ack =>
      simp only [State.fetch, ht, hr, Bool.false_eq_true, if_false, Option.some.injEq] at hf
      subst hf
      exact move_of_seq hr ht he
    | host w' =>
      simp only [State.fetch, ht, Option.some.injEq] at hf
      subst hf
      obtain ⟨a, ha⟩ | ⟨a, d, ha⟩ := decodeHost_cases w'
      · rw [ha] at he
        simp only [exec, execRd, hr, Bool.false_eq_true, if_false, Host.Outcome.next.injEq] at he
        subst he
        exact .rd w' a ht ha
      · rw [ha] at he
        simp only [exec, execWr, hr, Bool.false_eq_true, if_false, Host.Outcome.next.injEq] at he
        subst he
        exact .wr w' a d ht ha
    | pressA => simp [State.fetch, ht] at hf
    | pressB => simp [State.fetch, ht] at hf
    | rstAssert => exact absurd ht hn
    | rstRelease => simp [State.fetch, ht] at hf
  · rw [State.settle_out s hr] at hf ⊢
    cases ht : s.turn with
    | seq adc ack => simp [State.fetch, ht, hr] at hf
    | host w' => simp [State.fetch, ht] at hf
    | pressA => simpa [State.bareTurn, State.pressA, ht, hr] using Move.pressA ht
    | pressB => simpa [State.bareTurn, State.pressB, ht, hr] using Move.pressB ht
    | rstAssert => exact absurd ht hn
    | rstRelease =>
      have e : s.releaseReset = s := by cases s; simp_all [State.releaseReset]
      simpa [State.bareTurn, ht, e] using Move.release ht

/-- A step in which the reset pin is asserted, or stays asserted: the reset values (70_reset_and_hazards.md R250). -/
theorem step_next_in_reset {s t : State} (hr : s.rst = true ∨ s.turn = .rstAssert) (h : step s = .next t) :
    t = s.assertReset.dropTurn ∨ t = s.assertReset.releaseReset.dropTurn := by
  obtain ⟨_, ⟨w, u, hf, he, rfl⟩ | ⟨hf, rfl⟩⟩ := step_next_cases h
  · by_cases hrst : s.rst = true
    · rw [State.settle_in s hrst] at hf he
      have ht : s.assertReset.turn = s.turn := rfl
      cases hs : s.turn with
      | host w' =>
        simp only [State.fetch, ht, hs, Option.some.injEq] at hf
        subst hf
        obtain ⟨a, ha⟩ | ⟨a, d, ha⟩ := decodeHost_cases w' <;> rw [ha] at he
        · simp only [exec, execRd, State.assertReset_rst, if_true, Host.Outcome.next.injEq] at he
          subst he; exact .inl rfl
        · simp only [exec, execWr, State.assertReset_rst, if_true, Host.Outcome.next.injEq] at he
          subst he; exact .inl rfl
      | seq adc ack => simp [State.fetch, ht, hs] at hf
      | pressA => simp [State.fetch, ht, hs] at hf
      | pressB => simp [State.fetch, ht, hs] at hf
      | rstAssert => simp [State.fetch, ht, hs] at hf
      | rstRelease => simp [State.fetch, ht, hs] at hf
    · have hrst' : s.rst = false := by simpa using hrst
      have hs := hr.resolve_left hrst
      rw [State.settle_out s hrst'] at hf
      simp [State.fetch, hs] at hf
  · by_cases hrst : s.rst = true
    · rw [State.settle_in s hrst] at hf ⊢
      have ht : s.assertReset.turn = s.turn := rfl
      cases hs : s.turn with
      | host w' => simp [State.fetch, ht, hs] at hf
      | seq adc ack => simp [State.bareTurn, ht, hs]
      | pressA => simp [State.bareTurn, ht, hs, State.pressA]
      | pressB => simp [State.bareTurn, ht, hs, State.pressB]
      | rstAssert => left; simp only [State.bareTurn, ht, hs]; rfl
      | rstRelease => simp [State.bareTurn, ht, hs]
    · have hrst' : s.rst = false := by simpa using hrst
      have hs := hr.resolve_left hrst
      rw [State.settle_out s hrst']
      simp [State.bareTurn, hs]

end Sys2Proof.Machine
end

