-- ==== Sys2Proof/Tests/Slice0.lean ====
section
/-! SUPPORT. Tests from the spec's own vectors (95_test_vectors.md), smoke tests of the checks, and for each statement with hypotheses a state and operands that meet them. -/

namespace Sys2Proof.Tests

open Sys2Proof Sys2Proof.Machine Sys2Proof.Safety

/-- The reset state put in a phase, with one turn to take. -/
def inPhase (p : PhaseWord) (e : Turn) : State := { State.reset with phase := p, env := [e] }

/-- Does the answer give a next state of which `p` holds? -/
def gives (r : Result) (p : State → Bool) : Bool :=
  match r with
  | .next t => p t
  | .fault _ => false
  | .refused _ => false

/-- Is the answer the fault FAULT_STATE? -/
def faults (r : Result) : Bool :=
  match r with
  | .next _ => false
  | .fault .faultState => true
  | .refused _ => false

/-- Is the answer the refusal REFUSE_CFG? -/
def refusesCfg (r : Result) : Bool :=
  match r with
  | .next _ => false
  | .fault _ => false
  | .refused .refuseCfg => true
  | .refused (.notModelled _) => false

/-! Decoding: words written out from 30_encoding.md R84 and R85 and 95_test_vectors.md 2.6 and 2.7. -/

theorem test_decode_sample_sh : decodeTableWord 8 0b000 = some .sampleSh := by decide
theorem test_decode_sample_lg : decodeTableWord 8 0b001 = some .sampleLg := by decide
theorem test_decode_sample_hg : decodeTableWord 8 0b010 = some .sampleHg := by decide
theorem test_decode_derive : decodeTableWord 8 0b011 = some .derive := by decide
theorem test_decode_protect : decodeTableWord 8 0b100 = some .protect := by decide
theorem test_decode_mode : decodeTableWord 8 0b101 = some .mode := by decide
theorem test_decode_regulate : decodeTableWord 8 0b110 = some .regulate := by decide
theorem test_decode_handoff : decodeTableWord 8 0b111 = some .handoff := by decide
/-- H5's READ of DUTY with DATA set: DATA is ignored (30_encoding.md R86). -/
theorem test_decode_rd_ignores_data : decodeTableWord 40 0x03_DEADBEEF = some (.rd 0x3#4) := by decide
/-- H10 and E4. -/
theorem test_decode_wr : decodeTableWord 40 0x11_000005DC = some (.wr 0x1#4 1500#32) ∧
    decodeTableWord 40 0x1F_FFFFFFFF = some (.wr 0xF#4 0xFFFFFFFF#32) := by decide

/-! Smoke tests: each check refuses an ill-formed term. -/

theorem test_bytes_refuse_a_fourth_phase_bit : bytesWellFormed [8#8] = false ∧
    decodeBytes [8#8] = .error .phasePaddingSet := ⟨by decide, rfl⟩
theorem test_bytes_refuse_a_38th_host_bit : bytesWellFormed [0#8, 0#8, 0#8, 0#8, 32#8] = false ∧
    decodeBytes [0#8, 0#8, 0#8, 0#8, 32#8] = .error .hostPaddingSet := ⟨by decide, rfl⟩
theorem test_bytes_refuse_other_lengths : bytesWellFormed [0#8, 0#8] = false ∧
    decodeBytes [0#8, 0#8] = .error .wrongLength := ⟨by decide, rfl⟩
/-- CFG_WF (00_scope.md R6), one configuration for each way to fail: no divisor, then the current, either voltage path at either end, and the power over either path. -/
theorem test_cfg_refuses_each : admitted { Config.tc1 with dShunt := 0 } = false ∧
    admitted { Config.tc1 with kShunt := 2200000, dShunt := 1 } = false ∧
    admitted { Config.tc1 with kLg := 2200000 } = false ∧
    admitted { Config.tc1 with offHg := 2147483649 } = false ∧
    admitted { Config.tc1 with kHg := 22000000 } = false ∧
    admitted { Config.tc1 with kShunt := 2000000, dShunt := 1, kLg := 2000 } = false ∧
    admitted { Config.tc1 with kShunt := 2000000, dShunt := 1, kLg := 0, kHg := 0, offHg := 2000000 } = false ∧
    admitted { Config.tc1 with kShunt := 2000000, dShunt := 1, kLg := 0, kHg := 20000 } = false := by decide
/-- TC1 passes CFG_WF (95_test_vectors.md, opening). -/
theorem test_cfg_admits_tc1 : admitted Config.tc1 = true := by decide
/-- A step under a refused configuration (60_exceptions.md R221, O3). -/
theorem test_step_refuses_cfg : refusesCfg (step { State.reset with cfg := { Config.tc1 with dShunt := 0 } }) = true := by decide

/-! The SAMPLE phases: vectors A1, A10, A2, A6, A3. -/

/-- A1's start state. -/
def a1 : State := { inPhase 0#3 (.seq (some 250#10) false) with
  cursor := 3#4, histShunt := (Vector.replicate 12 0#10).set 3 100#10, accShunt := 1200#14 }

theorem test_sample_sh_a1 : gives (step a1) (fun t =>
    decide (t.histShunt = (Vector.replicate 12 0#10).set 3 250#10) && t.accShunt == 1350#14 && t.cursor == 3#4
      && t.phase == 1#3) = true := by decide
theorem test_sample_sh_a10 : faults (step { a1 with cursor := 12#4 }) = true := by decide
theorem test_sample_lg_a2 : gives (step (inPhase 1#3 (.seq (some 300#10) false))) (fun t =>
    decide (t.histLowGain = (Vector.replicate 12 0#10).set 0 300#10) && t.accLowGain == 300#14 && t.phase == 2#3)
    = true := by decide
theorem test_sample_lg_a6 : gives (step { inPhase 1#3 (.seq (some 0#10) false) with
    cursor := 4#4, histLowGain := Vector.replicate 12 1023#10, accLowGain := 12276#14 })
    (fun t => t.accLowGain == 11253#14) = true := by decide

/-- A3's start state, with the rest of its ring summing to ACC[2]. -/
def a3 : State := { inPhase 2#3 (.seq (some 7#10) false) with
  cursor := 11#4, histHighGain := Vector.replicate 12 5#10, accHighGain := 60#14 }

theorem test_sample_hg_a3 : gives (step a3) (fun t =>
    decide (t.histHighGain = (Vector.replicate 12 5#10).set 11 7#10) && t.accHighGain == 62#14 && t.cursor == 0#4
      && t.phase == 3#3) = true := by decide
/-- A9: the hold in phase 0. -/
theorem test_sample_holds_a9 : gives (step State.reset) (fun t => decide (t = State.reset)) = true ∧
    State.reset.hold = some .stuckAdc := by decide

/-! DERIVE under TC1: vectors D5 and D7. -/

theorem test_derive_d5 : gives (step { inPhase 3#3 quietTurn with
    accShunt := 2460#14, accLowGain := 3600#14, accHighGain := 12276#14 }) (fun t =>
    t.current.toInt == 1001 && t.voltage.toInt == 6292 && t.power.toInt == 6298 && t.highGain && t.phase == 4#3)
    = true := by decide
theorem test_derive_d7 : gives (step { inPhase 3#3 quietTurn with
    accShunt := 6000#14, accLowGain := 3000#14, accHighGain := 100#14 }) (fun t =>
    t.current.toInt == 2441 && t.voltage.toInt == -1 && t.power.toInt == -2 && t.highGain) = true := by decide

/-! PROTECT: vectors T1 and T2. -/

theorem test_protect_t1 : gives (step { inPhase 4#3 quietTurn with power := 2500#32 })
    (fun t => !t.fan && t.phase == 5#3) = true := by decide
theorem test_protect_t2 : gives (step { inPhase 4#3 quietTurn with power := 2501#32 }) (fun t => t.fan) = true := by decide

/-! MODE: vectors M8 and M9. -/

theorem test_mode_m8 : gives (step { inPhase 5#3 quietTurn with
    mode := .on, duty := 700#16, lastOk := true, pendA := true, pendB := true }) (fun t =>
    decide (t.mode = .off) && t.duty == 1025#16 && decide (t.dispMode = .amps) && t.lastOk && !t.pendA && !t.pendB)
    = true := by decide
theorem test_mode_m9 : gives (step { inPhase 5#3 quietTurn with
    mode := .lvc, lastOk := true, pendA := true, pendB := true }) (fun t =>
    decide (t.mode = .off) && decide (t.dispMode = .volts) && t.lastOk && t.phase == 6#3) = true := by decide

/-! REGULATE: vectors G3 and G8. -/

theorem test_regulate_g3 : gives (step { inPhase 6#3 quietTurn with
    mode := .on, duty := 623#16, current := 900#32, voltage := 1999#32 }) (fun t =>
    decide (t.mode = .lvc) && t.duty == 1025#16 && t.lastOk && t.phase == 7#3) = true := by decide
theorem test_regulate_g8 : gives (step { inPhase 6#3 quietTurn with mode := .on, voltage := 5000#32 }) (fun t =>
    decide (t.mode = .on) && t.duty == 1024#16 && fullyOff t.duty) = true := by decide

/-! HANDOFF and the host port: vectors H11, H12, H8, H7, H4, H5. -/

theorem test_handoff_h11 : gives (step (inPhase 7#3 (.seq none true))) (fun t => decide (t = State.reset)) = true := by decide
theorem test_handoff_h12 : gives (step (inPhase 7#3 quietTurn)) (fun t => decide (t = { State.reset with phase := 7#3 }))
    = true := by decide
theorem test_rd_h8 : gives (step { inPhase 1#3 (rdTurn Addr.status) with mode := .on, fan := true, lastOk := true })
    (fun t => t.rdata == 0x9E2#32) = true := by decide
theorem test_rd_h7 : gives (step { inPhase 0#3 (rdTurn Addr.voltage) with voltage := BitVec.ofInt 32 (-50) })
    (fun t => t.rdata == 0xFFFFFFCE#32) = true := by decide
theorem test_wr_h4 : gives (step (inPhase 0#3 (wrTurn Addr.target (-1)))) (fun t => t.target.toInt == -1) = true := by decide
theorem test_wr_h5 : gives (step (inPhase 0#3 (wrTurn Addr.duty 300))) (fun t => decide (t = State.reset)) = true := by decide

/-! Presses and reset: M13's coalescing, 70_reset_and_hazards.md R250. -/

theorem test_press_sets_latch : gives (step (inPhase 2#3 .pressB)) (fun t => t.pendB && t.phase == 2#3) = true := by decide
theorem test_press_in_reset_sets_none : gives (step { inPhase 0#3 .pressA with rst := true }) (fun t => !t.pendA) = true := by decide
theorem test_reset_abandons_hold : gives (step { inPhase 7#3 .rstAssert with mode := .on, duty := 500#16 }) (fun t =>
    t.phase == 0#3 && decide (t.mode = .off) && t.duty == 1025#16 && t.rst) = true := by decide

/-! The telemetry fields of S11's example, with the power the rules give (45_handoff_and_host.md R201, D13). -/

theorem test_frame_fields : ({ inPhase 7#3 quietTurn with
    mode := .on, voltage := 5231#32, current := 1003#32, power := 5246#32, duty := 623#16 } : State).frame =
    some { mode := .on, volts := 5231, amps := 1003, watts := 5246, targetCurrent := 1000, lowVoltageCutoff := 2000,
           dutyCycle := 623, dispMode := .volts, highGain := false } := by decide

/-! withFetchWord: the very next step runs the placed word. -/

theorem test_fetch_word_phase : gives (step (State.reset.withFetchWord 8 0b101)) (fun t => t.phase == 6#3) = true := by decide
theorem test_fetch_word_host : gives (step (State.reset.withFetchWord 40 0x11_00000007)) (fun t => t.target == 7#32) = true := by decide

/-! Witnesses: for each statement with hypotheses, a state and operands that meet them together, one per clause, at a boundary where there is one. -/

theorem witness_reset_is_BlockInv : BlockInv State.reset :=
  ⟨by decide, by decide, by decide, by decide, by decide, by decide⟩

theorem witness_DecodeUndoesEncode : (Instr.wr 0xF#4 0xFFFFFFFF#32).wellFormed = true := by decide
theorem witness_EveryWordOfBothFormatsDecodes :
    (0x0FFFFFFFFF#37).getLsbD 36 = false ∧ (0x1000000000#37).getLsbD 36 = true := by decide
theorem witness_EncodeUndoesDecode : (0x1FFFFFFFFF#37).getLsbD 36 = true ∧ (0x0FFFFFFFFF#37).getLsbD 36 = false := by decide
theorem witness_StepRunsTheDecodedWord : admitted State.reset.cfg = true ∧ State.reset.rst = false ∧
    State.reset.turn = .seq none false ∧ (inPhase 3#3 (.host 0x1FFFFFFFFF#37)).turn = .host 0x1FFFFFFFFF#37 := by decide
theorem witness_APressSetsItsLatch : admitted (inPhase 7#3 .pressA).cfg = true ∧ (inPhase 7#3 .pressA).rst = false ∧
    (inPhase 7#3 .pressA).turn = .pressA ∧ (inPhase 0#3 .pressB).turn = .pressB ∧
    ({ State.reset with env := [.pressA, .pressA, quietTurn] } : State).env = .pressA :: .pressA :: [quietTurn] ∧
    ({ State.reset with env := [.pressB, .pressB] } : State).env = .pressB :: .pressB :: [] := by decide
theorem witness_RefusedExactlyWhenCfgWfFails : closedFormCheck Config.tc1 ∧ ¬ CfgWf { Config.tc1 with dShunt := 0 } :=
  ⟨by unfold closedFormCheck; decide, fun h => absurd h.1 (by decide)⟩
theorem witness_APhaseOutOfItsTurnChangesNothing : encode .derive = .p 3#3 ∧ State.reset.phase ≠ 3#3 ∧
    encode .sampleSh = .p 0#3 ∧ ({ State.reset with rst := true } : State).rst = true := by decide
theorem witness_SampleShInsertsTheDeliveredCode :
    ((inPhase 0#3 quietTurn).rst = false ∧ (inPhase 0#3 quietTurn).phase = 0#3 ∧ (inPhase 0#3 quietTurn).adcPort = none) ∧
    (a1.rst = false ∧ a1.phase = 0#3 ∧ ({ a1 with cursor := 12#4 } : State).adcPort = some 250#10 ∧
      12 ≤ ({ a1 with cursor := 12#4 } : State).cursor.toNat) ∧
    (∃ s : State, s.rst = false ∧ s.phase = 0#3 ∧ s.adcPort = some 1023#10 ∧ s.cursor.toNat = 11 ∧ AccIsSum s .shunt) :=
  ⟨by decide, by decide, { inPhase 0#3 (.seq (some 1023#10) false) with cursor := 11#4 }, by decide⟩
theorem witness_SampleLgInsertsTheDeliveredCode :
    ((inPhase 1#3 quietTurn).rst = false ∧ (inPhase 1#3 quietTurn).phase = 1#3 ∧ (inPhase 1#3 quietTurn).adcPort = none) ∧
    (∃ s : State, s.rst = false ∧ s.phase = 1#3 ∧ s.adcPort = some 0#10 ∧ s.cursor.toNat = 15) ∧
    (∃ s : State, s.rst = false ∧ s.phase = 1#3 ∧ s.adcPort = some 0#10 ∧ s.cursor.toNat < 12 ∧ AccIsSum s .lowGain ∧
      s.accLowGain.toNat = 12276) :=
  ⟨by decide, ⟨{ inPhase 1#3 (.seq (some 0#10) false) with cursor := 15#4 }, by decide⟩,
    { inPhase 1#3 (.seq (some 0#10) false) with histLowGain := Vector.replicate 12 1023#10, accLowGain := 12276#14 },
    by decide⟩
theorem witness_SampleHgInsertsAndAdvancesTheCursor :
    ((inPhase 2#3 quietTurn).rst = false ∧ (inPhase 2#3 quietTurn).phase = 2#3 ∧ (inPhase 2#3 quietTurn).adcPort = none) ∧
    (∃ s : State, s.rst = false ∧ s.phase = 2#3 ∧ s.adcPort = some 7#10 ∧ s.cursor.toNat = 12) ∧
    (a3.rst = false ∧ a3.phase = 2#3 ∧ a3.adcPort = some 7#10 ∧ a3.cursor.toNat < 12 ∧ AccIsSum a3 .highGain) :=
  ⟨by decide, ⟨{ inPhase 2#3 (.seq (some 7#10) false) with cursor := 12#4 }, by decide⟩, by decide⟩
theorem witness_SampleInsertKeepsTheRunningSum : a3.cursor.toNat = 11 ∧ AccIsSum a3 .highGain := by decide
theorem witness_MeanIsATwelfthOfTheSum : AccIsSum a3 .highGain := by decide

/-- DERIVE with every accumulator at its largest. -/
def d6 : State := { inPhase 3#3 quietTurn with accShunt := 12276#14, accLowGain := 12276#14, accHighGain := 12276#14 }

theorem witness_DeriveComputesTheMeasurement :
    (d6.rst = false ∧ d6.phase = 3#3 ∧ admitted d6.cfg = true ∧ AccInRange d6) ∧
    (∃ s : State, s.rst = false ∧ s.phase = 3#3 ∧ admitted s.cfg = false) :=
  ⟨by decide, { d6 with cfg := { Config.tc1 with dShunt := 0 } }, by decide⟩
theorem witness_DeriveReadsOnlyTheSumsAndTheConfiguration :
    ∃ s u : State, s ≠ u ∧ s.rst = false ∧ u.rst = false ∧ s.phase = 3#3 ∧ u.phase = 3#3 ∧ admitted s.cfg = true ∧
      AccInRange s ∧ u.cfg = s.cfg ∧ u.accShunt = s.accShunt ∧ u.accLowGain = s.accLowGain ∧
      u.accHighGain = s.accHighGain :=
  ⟨d6, { d6 with voltage := 5#32, highGain := true, mode := .on }, by decide⟩
theorem witness_CurrentIsNeverNegativeAndVoltageMayBe :
    ∃ s : State, s.rst = false ∧ s.phase = 3#3 ∧ admitted s.cfg = true ∧ AccInRange s ∧
      ((s.accLowGain.toNat / 12 : Nat) : Int) * s.cfg.kLg ≤ 6000 ∧
      Int.tdiv (((s.accHighGain.toNat / 12 : Nat) : Int) * s.cfg.kHg) 10 < s.cfg.offHg :=
  ⟨{ inPhase 3#3 quietTurn with accShunt := 6000#14, accLowGain := 3600#14, accHighGain := 100#14 }, by decide⟩
theorem witness_ProtectSetsTheFanAboveTheThreshold : (inPhase 4#3 quietTurn).rst = false ∧ (inPhase 4#3 quietTurn).phase = 4#3 := by decide
theorem witness_ChangeModeFollowsTheTransitionTable :
    (State.reset.mode, Mode.on) ∈ [(Mode.off, Mode.on), (.on, .off), (.on, .lvc), (.lvc, .off)] ∧
    (State.reset.mode, Mode.set) ∉ [(Mode.off, Mode.on), (.on, .off), (.on, .lvc), (.lvc, .off)] := by decide
theorem witness_ModePhaseConsumesTheButtons : (inPhase 5#3 quietTurn).rst = false ∧ (inPhase 5#3 quietTurn).phase = 5#3 := by decide
theorem witness_RegulateTripsOrSteps : (inPhase 6#3 quietTurn).rst = false ∧ (inPhase 6#3 quietTurn).phase = 6#3 := by decide

/-- REGULATE in ON, without undervoltage. -/
def onAt (duty : DutyWord) (current : Word) : State :=
  { inPhase 6#3 quietTurn with mode := .on, duty := duty, current := current, voltage := 5000#32 }

theorem witness_SteppingStaysWithinTheClamps :
    ((onAt 300#16 0#32).rst = false ∧ (onAt 300#16 0#32).phase = 6#3 ∧ 300 ≤ (onAt 300#16 0#32).duty.toNat ∧
      (onAt 300#16 0#32).duty.toNat ≤ 1000) ∧
    (∃ t, exec .regulate (onAt 999#16 2000#32) = .next t ∧ t.mode = (onAt 999#16 2000#32).mode) ∧
    (1001 ≤ (onAt 1001#16 0#32).duty.toNat ∧ (onAt 1001#16 0#32).duty.toNat ≤ 1025 ∧
      ∃ t, exec .regulate (onAt 1001#16 0#32) = .next t ∧ t.mode = (onAt 1001#16 0#32).mode) :=
  ⟨by decide, ⟨_, rfl, by decide⟩, by decide, by decide, _, rfl, by decide⟩
theorem witness_SoftStartRampsFromTheSentinel :
    ((onAt 1025#16 0#32).rst = false ∧ (onAt 1025#16 0#32).mode = .on ∧ (onAt 1025#16 0#32).duty = 1025#16 ∧
      (onAt 1025#16 0#32).lvcut.toInt ≤ (onAt 1025#16 0#32).voltage.toInt) ∧
    ((onAt 1025#16 0#32).current.toInt < (onAt 1025#16 0#32).target.toInt ∧ 725 ≤ 725) ∧
    (onAt 1025#16 1000#32).target.toInt ≤ (onAt 1025#16 1000#32).current.toInt := by decide
theorem witness_HandoffWaitsForTheAcknowledge :
    ((inPhase 7#3 (.seq none true)).rst = false ∧ (inPhase 7#3 (.seq none true)).phase = 7#3 ∧
      (inPhase 7#3 (.seq none true)).dispAck = true) ∧ (inPhase 7#3 quietTurn).dispAck = false := by decide
theorem witness_ReadReturnsTheMappedWord : State.reset.rst = false ∧ (15#4).toNat = 15 := by decide
theorem witness_WriteReachesOnlyTheSetpoints : State.reset.rst = false ∧ 0x3#4 ≠ 0x1#4 ∧ 0x3#4 ≠ 0x2#4 ∧
    0x0#4 ≠ 0x1#4 ∧ 0x0#4 ≠ 0x2#4 := by decide
theorem witness_HostTransactionsDuringReset : ({ State.reset with rst := true } : State).rst = true := by decide
theorem witness_HostReachesNothingButTheSetpoints : admitted (inPhase 7#3 (.host 0x1FFFFFFFFF#37)).cfg = true ∧
    (inPhase 7#3 (.host 0x1FFFFFFFFF#37)).rst = false ∧
    (inPhase 7#3 (.host 0x1FFFFFFFFF#37)).turn = .host 0x1FFFFFFFFF#37 := by decide
theorem witness_ResetLoadsEveryElement : admitted (inPhase 7#3 .rstAssert).cfg = true ∧
    (inPhase 7#3 .rstAssert).turn = .rstAssert ∧
    (({ inPhase 3#3 (rdTurn 5#4) with rst := true } : State).rst = true ∧
      ({ inPhase 3#3 (rdTurn 5#4) with rst := true } : State).turn ≠ .rstRelease) ∧
    ({ inPhase 3#3 .rstRelease with rst := true } : State).rst = true ∧
    ({ inPhase 3#3 .rstRelease with rst := true } : State).turn = .rstRelease := by decide
theorem witness_AStepTakesOneTurnAndKeepsTheConfiguration : ∃ t, step a1 = .next t := ⟨_, rfl⟩
theorem witness_PhaseAdvancesByOneOrStays :
    (OutOfReset a1 ∧ (∃ t, step a1 = .next t) ∧ a1.turn = .seq (some 250#10) false ∧ a1.hold = none) ∧
    (OutOfReset (inPhase 7#3 quietTurn) ∧ (∃ t, step (inPhase 7#3 quietTurn) = .next t) ∧
      (inPhase 7#3 quietTurn).hold ≠ none) ∧
    (OutOfReset (inPhase 3#3 .pressA) ∧ (∃ t, step (inPhase 3#3 .pressA) = .next t) ∧
      ∀ adc ack, (inPhase 3#3 .pressA).turn ≠ .seq adc ack) :=
  ⟨⟨by decide, ⟨_, rfl⟩, by decide, by decide⟩, ⟨by decide, ⟨_, rfl⟩, by decide⟩,
    ⟨by decide, ⟨_, rfl⟩, fun _ _ h => by cases h⟩⟩
theorem witness_AHoldFreezesTheSequencer : admitted (inPhase 7#3 .pressB).cfg = true ∧ OutOfReset (inPhase 7#3 .pressB) ∧
    (inPhase 7#3 .pressB).hold ≠ none ∧ OutOfReset State.reset ∧ State.reset.hold ≠ none ∧
    State.reset.turn = .seq none false := by decide
theorem witness_OnlySampleStepsWriteTheRings :
    (OutOfReset (inPhase 3#3 quietTurn) ∧ (∃ t, step (inPhase 3#3 quietTurn) = .next t) ∧
      3 ≤ (inPhase 3#3 quietTurn).phase.toNat) ∧
    (OutOfReset State.reset ∧ (∃ t, step State.reset = .next t) ∧ State.reset.adcPort = none) :=
  ⟨⟨by decide, ⟨_, rfl⟩, by decide⟩, by decide, ⟨_, rfl⟩, by decide⟩

/-- MODE in OFF with both buttons pending. -/
def bothPending : State := { inPhase 5#3 quietTurn with pendA := true, pendB := true }

theorem witness_SetpointsAndLatchesHaveTheirWriters :
    (∃ t, step (inPhase 0#3 (wrTurn Addr.target 7)) = .next t ∧ t.target ≠ State.reset.target) ∧
    (∃ t, step (inPhase 0#3 (wrTurn Addr.lvcut 7)) = .next t ∧ t.lvcut ≠ State.reset.lvcut) ∧
    (∃ t, step (inPhase 0#3 .pressA) = .next t ∧ t.pendA = true) ∧
    (∃ t, step (inPhase 0#3 .pressB) = .next t ∧ t.pendB = true) ∧
    (∃ t, step bothPending = .next t ∧ t.pendA = false ∧ t.pendB = false) ∧ OutOfReset bothPending :=
  ⟨⟨_, rfl, by decide⟩, ⟨_, rfl, by decide⟩, ⟨_, rfl, by decide⟩, ⟨_, rfl, by decide⟩, ⟨_, rfl, by decide⟩, by decide⟩
theorem witness_DisplayCyclesOnlyWhileOff :
    (∃ s t : State, OutOfReset s ∧ step s = .next t ∧ t.dispMode ≠ s.dispMode ∧ s.mode = .off ∧ s.pendA = false) ∧
    (∃ s t : State, OutOfReset s ∧ step s = .next t ∧ t.dispMode ≠ s.dispMode ∧ s.mode = .on ∧ s.pendA = true) :=
  ⟨⟨{ inPhase 5#3 quietTurn with pendB := true, dispMode := .watts }, _, by decide, rfl, by decide⟩,
    { inPhase 5#3 quietTurn with mode := .on, pendA := true, pendB := true }, _, by decide, rfl, by decide⟩
/-- The acknowledge of LVC ends in OFF and leaves the display (44_mode.md R174). -/
theorem test_mode_acknowledge_keeps_the_display :
    gives (step { inPhase 5#3 quietTurn with mode := .lvc, pendB := true, dispMode := .amps })
      (fun t => t.mode == .off && t.dispMode == .amps) = true := by decide
theorem witness_EveryModeChangeIsInTheTable :
    (∃ t, OutOfReset bothPending ∧ step bothPending = .next t ∧ t.mode ≠ bothPending.mode) ∧
    (∃ s t : State, OutOfReset s ∧ s.phase = 6#3 ∧ step s = .next t ∧ t.mode ≠ s.mode) :=
  ⟨⟨_, by decide, rfl, by decide⟩,
    { onAt 500#16 0#32 with voltage := 1999#32 }, _, by decide, by decide, rfl, by decide⟩
theorem witness_SetModeIsAbsorbing : ∃ s t : State, OutOfReset s ∧ s.mode = .set ∧ step s = .next t :=
  ⟨{ bothPending with mode := .set }, _, by decide, by decide, rfl⟩
theorem witness_OnlyTheAcknowledgeLeavesLvc : ∃ s t : State, OutOfReset s ∧ s.mode = .lvc ∧ step s = .next t :=
  ⟨{ bothPending with mode := .lvc }, _, by decide, by decide, rfl⟩
theorem witness_LeavingOnTurnsTheLoadOff : ∃ s t : State, s.mode = .on ∧ step s = .next t ∧ t.mode ≠ .on :=
  ⟨{ onAt 500#16 0#32 with voltage := 1999#32 }, _, by decide, rfl, by decide⟩
theorem witness_DutyMovesByOneOrIsForcedOff :
    (∃ t, OutOfReset (onAt 301#16 0#32) ∧ step (onAt 301#16 0#32) = .next t ∧ t.duty ≠ (onAt 301#16 0#32).duty) ∧
    (∃ s t : State, OutOfReset s ∧ step s = .next t ∧ t.duty ≠ s.duty ∧ t.mode ≠ .on) :=
  ⟨⟨_, by decide, rfl, by decide⟩, { onAt 500#16 0#32 with voltage := 1999#32 }, _, by decide, rfl, by decide, by decide⟩
theorem witness_OutputPortsAreTheirEquations : State.reset.rst = false ∧ State.reset.adcReq = true ∧
    State.reset.phase ≠ 7#3 ∧ (inPhase 7#3 quietTurn).rst = false ∧ (inPhase 7#3 quietTurn).phase = 7#3 := by decide
theorem witness_EveryModeButOnIsFullyOff : BlockInv State.reset ∧ State.reset.mode ≠ .on :=
  ⟨witness_reset_is_BlockInv, by decide⟩
theorem witness_EveryStepKeepsTheInvariants : BlockInv State.reset ∧ ∃ t, step State.reset = .next t :=
  ⟨witness_reset_is_BlockInv, _, rfl⟩
theorem witness_ReachableStatesSatisfyTheInvariants :
    ∃ t, runSteps 2 { State.resetOf Config.tc1 with env := [.pressA, .seq (some 1023#10) false] } = .next t := ⟨_, rfl⟩
theorem witness_NoStepStopsOrLeavesTheExactRange : BlockInv State.reset ∧ admitted State.reset.cfg = true :=
  ⟨witness_reset_is_BlockInv, by decide⟩
theorem witness_ACycleRunsTheEightPhases :
    ∃ s : State, BlockInv s ∧ admitted s.cfg = true ∧ s.rst = false ∧ s.phase = 0#3 ∧
      s.env = cycleTurns 1#10 2#10 1023#10 ++ [.pressA] :=
  ⟨{ State.reset with env := cycleTurns 1#10 2#10 1023#10 ++ [.pressA] },
    ⟨by decide, by decide, by decide, by decide, by decide, by decide⟩, by decide⟩
theorem witness_AccumulatorsHoldTheLastTwelveCodes : admitted Config.tc1 = true := by decide

/-- Before DERIVE, with a reported voltage of −50. -/
def lowVolts (m : Mode) (a : Bool) : State :=
  { State.reset with phase := 3#3, mode := m, pendA := a, env := [quietTurn, quietTurn, quietTurn, quietTurn] }

theorem witness_UndervoltageEndsTheCycleOff :
    (admitted (lowVolts .on false).cfg = true ∧ AccInRange (lowVolts .on false) ∧ (lowVolts .on false).rst = false ∧
      (lowVolts .on false).phase = 3#3 ∧
      (lowVolts .on false).env = quietTurn :: quietTurn :: quietTurn :: quietTurn :: [] ∧
      reportedVoltage (lowVolts .on false) < (lowVolts .on false).lvcut.toInt) ∧
    ((lowVolts .on false).mode = .on ∧ (lowVolts .on false).pendA = false) ∧
    (reportedVoltage (lowVolts .off true) < (lowVolts .off true).lvcut.toInt ∧ (lowVolts .off true).mode = .off ∧
      (lowVolts .off true).pendA = true) ∧
    (reportedVoltage (lowVolts .on true) < (lowVolts .on true).lvcut.toInt ∧ (lowVolts .on true).mode = .on ∧
      (lowVolts .on true).pendA = true) ∧
    (reportedVoltage (lowVolts .off false) < (lowVolts .off false).lvcut.toInt ∧ (lowVolts .off false).mode = .off ∧
      (lowVolts .off false).pendA = false) ∧
    (reportedVoltage (lowVolts .lvc false) < (lowVolts .lvc false).lvcut.toInt ∧
      (lowVolts .lvc false).mode = .lvc) := by decide
/-- The states of the clauses with the invariants as a premise. -/
theorem witness_UndervoltageEndsTheCycleOff_invariants :
    BlockInv (lowVolts .off false) ∧ BlockInv (lowVolts .lvc false) :=
  ⟨⟨by decide, by decide, by decide, by decide, by decide, by decide⟩,
    ⟨by decide, by decide, by decide, by decide, by decide, by decide⟩⟩

end Sys2Proof.Tests
end

