-- ==== Sys2Proof/Proofs/Admission.lean ====
section
/-! CLAIM. The two statements about CFG_WF (00_scope.md R6): the end points of the means decide it, and a step refuses exactly where it fails. -/

namespace Sys2Proof.Machine

/-! Every formula of 41_deriver.md R121 is monotone in its mean. -/

theorem tdiv_le_tdiv {a b c : Int} (hc : 0 < c) (h : a ≤ b) : tdiv a c ≤ tdiv b c := Int.tdiv_le_tdiv hc h

@[simp] theorem tdiv_zero_left (b : Int) : tdiv 0 b = 0 := Int.zero_tdiv b

theorem meanProduct_le {m n : Nat} (h : m ≤ n) (k : Nat) : (m : Int) * k ≤ (n : Int) * k := by
  exact_mod_cast Nat.mul_le_mul_right k h

theorem currentOf_nonneg (c : Config) (m : Nat) : 0 ≤ currentOf c m := tdiv_nonneg (by positivity) (by positivity)

theorem lowGainOf_nonneg (c : Config) (m : Nat) : 0 ≤ lowGainOf c m := by
  rw [lowGainOf_eq]; positivity

theorem currentOf_mono {c : Config} (hd : 1 ≤ c.dShunt) {m n : Nat} (h : m ≤ n) : currentOf c m ≤ currentOf c n :=
  tdiv_le_tdiv (by omega) (meanProduct_le h c.kShunt)

theorem lowGainOf_mono (c : Config) {m n : Nat} (h : m ≤ n) : lowGainOf c m ≤ lowGainOf c n :=
  meanProduct_le h c.kLg

theorem highGainOf_mono (c : Config) {m n : Nat} (h : m ≤ n) : highGainOf c m ≤ highGainOf c n :=
  Int.sub_le_sub_right (tdiv_le_tdiv (by decide) (meanProduct_le h c.kHg)) c.offHg

/-! The range of an int32 is an interval around 0. -/

theorem fitsInt32_of_between {lo v hi : Int} (hlo : fitsInt32 lo = true) (hhi : fitsInt32 hi = true)
    (h₁ : lo ≤ v) (h₂ : v ≤ hi) : fitsInt32 v = true := by
  rw [fitsInt32_iff] at hlo hhi ⊢; omega

theorem fitsInt32_zero : fitsInt32 0 = true := by decide

/-- A power lies between 0 and the power at the largest current and the extreme voltage of its own sign. -/
theorem fitsInt32_powerOf {i iMax lo v hi : Int} (hi₀ : 0 ≤ i) (hi₁ : i ≤ iMax) (hv₀ : lo ≤ v) (hv₁ : v ≤ hi)
    (hlo : fitsInt32 (powerOf iMax lo) = true) (hhi : fitsInt32 (powerOf iMax hi) = true) :
    fitsInt32 (powerOf i v) = true := by
  have hmono : ∀ {a b : Int}, a ≤ b → tdiv a Config.pDiv ≤ tdiv b Config.pDiv := tdiv_le_tdiv (by decide)
  obtain hv | hv := Int.le_total 0 v
  · have hle : i * v ≤ iMax * hi := mul_le_mul hi₁ hv₁ hv (hi₀.trans hi₁)
    exact fitsInt32_of_between fitsInt32_zero hhi (tdiv_nonneg (mul_nonneg hi₀ hv) (by decide)) (hmono hle)
  · have hge : iMax * lo ≤ i * v :=
      (mul_le_mul_of_nonneg_left hv₀ (hi₀.trans hi₁)).trans (mul_le_mul_of_nonpos_right hi₁ hv)
    have hneg : powerOf i v ≤ 0 := by simpa [powerOf] using hmono (mul_nonpos_of_nonneg_of_nonpos hi₀ hv)
    exact fitsInt32_of_between hlo fitsInt32_zero (hmono hge) hneg

/-! The check at the end points of the means. -/

theorem admitted_iff (c : Config) : admitted c = true ↔
    1 ≤ c.dShunt ∧ fitsInt32 (currentOf c 1023) = true ∧ fitsInt32 (lowGainOf c 1023) = true ∧
    fitsInt32 (highGainOf c 0) = true ∧ fitsInt32 (highGainOf c 1023) = true ∧
    fitsInt32 (powerOf (currentOf c 1023) (lowGainOf c 1023)) = true ∧
    fitsInt32 (powerOf (currentOf c 1023) (highGainOf c 0)) = true ∧
    fitsInt32 (powerOf (currentOf c 1023) (highGainOf c 1023)) = true := by
  simp [admitted, and_assoc]

theorem cfgWf_of_admitted {c : Config} (h : admitted c = true) : CfgWf c := by
  obtain ⟨hd, hI, hLg, hHg₀, hHg₁, hpLg, hpHg₀, hpHg₁⟩ := (admitted_iff c).1 h
  refine ⟨hd, fun m hm => ⟨?_, ?_, ?_⟩, fun m n hm hn => ⟨?_, ?_⟩⟩
  · exact fitsInt32_of_between fitsInt32_zero hI (currentOf_nonneg c m) (currentOf_mono hd hm)
  · exact fitsInt32_of_between fitsInt32_zero hLg (lowGainOf_nonneg c m) (lowGainOf_mono c hm)
  · exact fitsInt32_of_between hHg₀ hHg₁ (highGainOf_mono c m.zero_le) (highGainOf_mono c hm)
  · have hp₀ : fitsInt32 (powerOf (currentOf c 1023) 0) = true := by simp [powerOf, fitsInt32_zero]
    exact fitsInt32_powerOf (currentOf_nonneg c m) (currentOf_mono hd hm) (lowGainOf_nonneg c n)
      (lowGainOf_mono c hn) hp₀ hpLg
  · exact fitsInt32_powerOf (currentOf_nonneg c m) (currentOf_mono hd hm) (highGainOf_mono c n.zero_le)
      (highGainOf_mono c hn) hpHg₀ hpHg₁

theorem admitted_of_cfgWf {c : Config} (h : CfgWf c) : admitted c = true := by
  obtain ⟨hd, hval, hpow⟩ := h
  obtain ⟨hI, hLg, hHg₁⟩ := hval 1023 le_rfl
  obtain ⟨-, -, hHg₀⟩ := hval 0 (Nat.zero_le _)
  obtain ⟨hpLg, hpHg₁⟩ := hpow 1023 1023 le_rfl le_rfl
  obtain ⟨-, hpHg₀⟩ := hpow 1023 0 le_rfl (Nat.zero_le _)
  exact (admitted_iff c).2 ⟨hd, hI, hLg, hHg₀, hHg₁, hpLg, hpHg₀, hpHg₁⟩

theorem admitted_iff_cfgWf (c : Config) : admitted c = true ↔ CfgWf c := ⟨cfgWf_of_admitted, admitted_of_cfgWf⟩

/-- Settles O9: every formula is monotone in its mean, so the end points bound every mean and every pair of means. -/
theorem endPointCheckIsCfgWf : Obligations.EndPointCheckIsCfgWf := admitted_iff_cfgWf

/-! The closed form of 00_scope.md R6 bounds the absolute values at the end points. -/

theorem fitsInt32_of_natAbs_le {v : Int} (h : v.natAbs ≤ 2147483647) : fitsInt32 v = true := by
  rw [fitsInt32_iff]; omega

theorem natAbs_tdiv (a b : Int) : (tdiv a b).natAbs = a.natAbs / b.natAbs := Int.natAbs_tdiv a b

theorem natAbs_currentOf (c : Config) (m : Nat) : (currentOf c m).natAbs = m * c.kShunt / c.dShunt := by
  simp [currentOf, natAbs_tdiv, Int.natAbs_mul]

theorem natAbs_lowGainOf (c : Config) (m : Nat) : (lowGainOf c m).natAbs = m * c.kLg := by
  simp [lowGainOf_eq, Int.natAbs_mul]

theorem natAbs_powerOf (i v : Int) : (powerOf i v).natAbs = i.natAbs * v.natAbs / 1000 := by
  simp [powerOf, natAbs_tdiv, Int.natAbs_mul, Config.pDiv]

theorem natAbs_highGainOf_le (c : Config) (m : Nat) :
    (highGainOf c m).natAbs ≤ c.offHg.natAbs + m * c.kHg / 10 := by
  have hsub := Int.natAbs_sub_le (tdiv ((m : Int) * c.kHg) Config.hgDiv) c.offHg
  have hdiv : (tdiv ((m : Int) * c.kHg) Config.hgDiv).natAbs = m * c.kHg / 10 := by
    simp [natAbs_tdiv, Int.natAbs_mul, Config.hgDiv]
  rw [highGainOf]; omega

theorem natAbs_highGainOf_mean_zero (c : Config) : (highGainOf c 0).natAbs = c.offHg.natAbs := by
  simp [highGainOf_eq]

theorem fitsInt32_powerOf_of_natAbs_le {i v : Int} {vMax : Nat} (hv : v.natAbs ≤ vMax)
    (h : i.natAbs * vMax / 1000 ≤ 2147483647) : fitsInt32 (powerOf i v) = true := by
  apply fitsInt32_of_natAbs_le
  calc (powerOf i v).natAbs = i.natAbs * v.natAbs / 1000 := natAbs_powerOf i v
    _ ≤ i.natAbs * vMax / 1000 := Nat.div_le_div_right (Nat.mul_le_mul_left _ hv)
    _ ≤ 2147483647 := h

theorem admitted_of_closedFormCheck {c : Config} (h : closedFormCheck c) : admitted c = true := by
  obtain ⟨hd, hSh, hLg, -, hHg, hPow⟩ := h
  have hHg₁ := natAbs_highGainOf_le c 1023
  have hHg₀ := natAbs_highGainOf_mean_zero c
  refine (admitted_iff c).2 ⟨hd, ?current, ?lowGain, ?highGain₀, ?highGain₁, ?powLg, ?powHg₀, ?powHg₁⟩
  case current =>
    exact fitsInt32_of_natAbs_le ((natAbs_currentOf c 1023).trans_le ((Nat.div_le_self _ _).trans hSh))
  case lowGain => exact fitsInt32_of_natAbs_le ((natAbs_lowGainOf c 1023).trans_le hLg)
  case highGain₀ => exact fitsInt32_of_natAbs_le (by omega)
  case highGain₁ => exact fitsInt32_of_natAbs_le (by omega)
  case powLg => exact fitsInt32_powerOf_of_natAbs_le (le_max_left _ _) hPow
  case powHg₀ => exact fitsInt32_powerOf_of_natAbs_le ((le_max_left _ _).trans (le_max_right _ _)) hPow
  case powHg₁ => exact fitsInt32_powerOf_of_natAbs_le ((le_max_right _ _).trans (le_max_right _ _)) hPow

/-! Refusals. No meaning refuses under an admitted configuration. -/

theorem thenNext_refused {f : State → State} {r : Result} {e : Refusal} (h : thenNext f r = .refused e) :
    r = .refused e := by
  cases r with
  | next _ => cases h
  | fault _ => cases h
  | refused _ => exact h

theorem phaseOp_refused {k : PhaseWord} {run : State → Result} {s : State} {e : Refusal}
    (h : phaseOp k run s = .refused e) : run s = .refused e := by
  unfold phaseOp at h
  split at h
  · exact h
  · cases h

theorem samplePhase_ne_refused (ch : Channel) (k : PhaseWord) (finish : State → State) (s : State) (e : Refusal) :
    samplePhase ch k finish s ≠ .refused e := by
  obtain ⟨-, q⟩ | ⟨-, -, q⟩ | ⟨-, _, -, -, q⟩ | ⟨-, _, -, _, q⟩ := samplePhase_cases ch k finish s <;> simp [q]

theorem exec_ne_refused {s : State} (ha : admitted s.cfg = true) (i : Instr) (e : Refusal) :
    exec i s ≠ .refused e := by
  intro h
  cases i with
  | sampleSh => exact samplePhase_ne_refused _ _ _ _ _ h
  | sampleLg => exact samplePhase_ne_refused _ _ _ _ _ h
  | sampleHg => exact samplePhase_ne_refused _ _ _ _ _ h
  | derive =>
    rw [exec, execDerive] at h
    simpa [ha] using phaseOp_refused h
  | protect =>
    rw [exec, execProtect] at h
    cases phaseOp_refused h
  | mode =>
    rw [exec, execMode] at h
    cases phaseOp_refused h
  | regulate =>
    rw [exec, execRegulate] at h
    cases phaseOp_refused h
  | handoff =>
    rw [exec, execHandoff] at h
    have hrun := phaseOp_refused h
    split at hrun <;> cases hrun
  | rd _ => cases h
  | wr _ _ => cases h

theorem takeTurn_ne_refused {s : State} (ha : admitted s.cfg = true) (e : Refusal) : takeTurn s ≠ .refused e := by
  intro h
  unfold takeTurn at h
  split at h
  · exact exec_ne_refused ha _ e (thenNext_refused h)
  · cases h

/-- The one refusal of a step, and exactly when it comes. -/
theorem step_refused_iff (s : State) (e : Refusal) :
    step s = .refused e ↔ e = .refuseCfg ∧ admitted s.cfg = false := by
  unfold step
  split
  case isTrue ha => simp [ha, takeTurn_ne_refused (s := s.settle) (by simpa using ha) e]
  case isFalse ha => simp [ha, eq_comm]

/-- Settles O8: the step evaluates the end-point check, which is CFG_WF by O9, and the closed form bounds each of its end points. -/
theorem refusedExactlyWhenCfgWfFails : Obligations.RefusedExactlyWhenCfgWfFails := by
  refine ⟨fun s => ?_, fun c hc => cfgWf_of_admitted (admitted_of_closedFormCheck hc)⟩
  simp [step_refused_iff, ← admitted_iff_cfgWf]

end Sys2Proof.Machine
end

/-! SUPPORT. What the ring sums, SampleInsert, the buttons and a host WRITE do, each said once. -/

namespace Sys2Proof.Safety

open Sys2Proof.Machine

/-! The sum of a ring. -/

/-- Replacing one cell changes the sum by exactly the difference. -/
theorem ringSum_set (r : Ring) {i : Nat} (h : i < 12) (v : RawSample) :
    ringSum (r.set i v h) + (r[i]).toNat = ringSum r + v.toNat := by
  have hlen : i < (r.toList.map BitVec.toNat).length := by simpa using h
  have hnew := List.sum_set (r.toList.map BitVec.toNat) i v.toNat
  have hold := List.sum_set (r.toList.map BitVec.toNat) i (r.toList.map BitVec.toNat)[i]
  rw [if_pos hlen] at hnew hold
  rw [List.set_getElem_self, List.getElem_map, Vector.getElem_toList] at hold
  simp only [ringSum, Vector.toList_set, List.map_set]
  omega

theorem ringSum_le (r : Ring) : ringSum r ≤ 12276 := by
  have hcell : ∀ x ∈ r.toList.map BitVec.toNat, x ≤ 1023 := by
    intro x hx
    obtain ⟨c, -, rfl⟩ := List.mem_map.1 hx
    have := c.isLt
    omega
  simpa [ringSum] using List.sum_le_card_nsmul _ 1023 hcell

theorem ringSum_zero : ringSum (Vector.replicate 12 0#10) = 0 := by decide

/-- R45 (b) for the three channels at once. -/
theorem accIsSum_all_iff (s : State) :
    (AccIsSum s .shunt ∧ AccIsSum s .lowGain ∧ AccIsSum s .highGain) ↔ ∀ ch, AccIsSum s ch :=
  ⟨fun ⟨hsh, hlg, hhg⟩ ch => match ch with | .shunt => hsh | .lowGain => hlg | .highGain => hhg,
    fun h => ⟨h _, h _, h _⟩⟩

end Sys2Proof.Safety

namespace Sys2Proof.Machine

open Sys2Proof.Safety

/-! SampleInsert inside the ring (40_sampler.md R100). -/

/-- What SampleInsert leaves where the cursor is in the ring; `State.sampleInsert_inside` ties it to the model. -/
def State.inserted (s : State) (ch : Channel) (v : RawSample) (h : s.cursor.toNat < 12) : State :=
  (s.setRing ch ((s.ring ch).set s.cursor.toNat v h)).storeAcc ch
    ((s.acc ch).toNat - ((s.ring ch)[s.cursor.toNat]).toNat + v.toNat : Int)

theorem State.sampleInsert_inside (s : State) (ch : Channel) (v : RawSample) (h : s.cursor.toNat < 12) :
    s.sampleInsert ch v = .ok (s.inserted ch v h) := by
  obtain ⟨_, hs⟩ | ⟨hge, _⟩ := s.sampleInsert_cases ch v
  · exact hs
  · omega

section
variable (s : State) (ch : Channel) (v : RawSample) (h : s.cursor.toNat < 12)

@[simp] theorem State.inserted_cursor : (s.inserted ch v h).cursor = s.cursor := by simp [State.inserted]
@[simp] theorem State.inserted_duty : (s.inserted ch v h).duty = s.duty := by simp [State.inserted]
@[simp] theorem State.inserted_mode : (s.inserted ch v h).mode = s.mode := by simp [State.inserted]
@[simp] theorem State.inserted_led : (s.inserted ch v h).led = s.led := by simp [State.inserted]

@[simp] theorem State.inserted_ring_same :
    (s.inserted ch v h).ring ch = (s.ring ch).set s.cursor.toNat v h := by simp [State.inserted]

theorem State.inserted_ring_other {d : Channel} (hd : d ≠ ch) : (s.inserted ch v h).ring d = s.ring d := by
  simp [State.inserted, State.setRing_ring_other s ch d _ hd]

theorem State.inserted_acc_other {d : Channel} (hd : d ≠ ch) : (s.inserted ch v h).acc d = s.acc d := by
  simp [State.inserted, State.storeAcc_acc_other _ ch d _ hd]

end

/-- The corrected accumulator is the sum of the new ring, and so fits its u14 (40_sampler.md R100). -/
theorem State.inserted_accIsSum_same {s : State} {ch : Channel} (hs : AccIsSum s ch) (v : RawSample)
    (h : s.cursor.toNat < 12) : AccIsSum (s.inserted ch v h) ch := by
  have hset := ringSum_set (s.ring ch) h v
  have hle := ringSum_le ((s.ring ch).set s.cursor.toNat v h)
  have hsum : (s.acc ch).toNat = ringSum (s.ring ch) := hs
  have hfits : fitsAcc ((s.acc ch).toNat - ((s.ring ch)[s.cursor.toNat]).toNat + v.toNat : Int) = true := by
    rw [fitsAcc_iff]; omega
  have hacc := accOrFree_toNat _ s.freeUses hfits
  show ((s.inserted ch v h).acc ch).toNat = ringSum ((s.inserted ch v h).ring ch)
  rw [State.inserted_ring_same, State.inserted, State.storeAcc_acc_same, State.setRing_freeUses]
  omega

/-- Every accumulator stays the sum of its ring: the inserted channel's by the correction, the others' untouched. -/
theorem State.inserted_accIsSum {s : State} (hs : ∀ d, AccIsSum s d) (ch : Channel) (v : RawSample)
    (h : s.cursor.toNat < 12) (d : Channel) : AccIsSum (s.inserted ch v h) d := by
  by_cases hd : d = ch
  · subst hd; exact State.inserted_accIsSum_same (hs d) v h
  · show ((s.inserted ch v h).acc d).toNat = ringSum ((s.inserted ch v h).ring d)
    rw [State.inserted_acc_other s ch v h hd, State.inserted_ring_other s ch v h hd]
    exact hs d

/-! The buttons (44_mode.md R174, R176). -/

/-- Button A toggles ON and OFF and moves no other mode. -/
theorem State.buttonA_mode (s : State) : s.buttonA.mode =
    if s.pendA = true ∧ s.mode = .off then .on else if s.pendA = true ∧ s.mode = .on then .off else s.mode := by
  unfold State.buttonA
  by_cases hp : s.pendA = true
  · cases hm : s.mode <;> simp [State.changeMode, legalTransition, hp, hm]
  · simp [hp]

/-- Button B acknowledges LVC and moves no other mode. -/
theorem State.buttonB_mode (s : State) : s.buttonB.mode =
    if s.pendB = true ∧ s.mode = .lvc then .off else s.mode := by
  unfold State.buttonB
  by_cases hp : s.pendB = true
  · cases hm : s.mode <;> simp [State.changeMode, legalTransition, hp, hm]
  · simp [hp]

/-- Button B cycles the display in OFF and nowhere else. -/
theorem State.buttonB_dispMode (s : State) : s.buttonB.dispMode =
    if s.pendB = true ∧ s.mode = .off then nextDisp s.dispMode else s.dispMode := by
  unfold State.buttonB
  by_cases hp : s.pendB = true
  · cases hm : s.mode <;> simp [hp]
  · simp [hp]

theorem nextDisp_mem_cycle (d : DispMode) : (d, nextDisp d) ∈
    [(DispMode.volts, DispMode.amps), (.amps, .amphours), (.amphours, .watts), (.watts, .volts)] := by
  cases d <;> decide

/-! A host WRITE leaves everything but the setpoints (45_handoff_and_host.md R203). -/

theorem State.hostWrite_eq (s : State) (a : BitVec 4) (d : Word) :
    s.hostWrite a d = { s with target := (s.hostWrite a d).target, lvcut := (s.hostWrite a d).lvcut } := by
  obtain h | ⟨-, h⟩ | ⟨-, h⟩ := s.hostWrite_cases a d <;> rw [h] <;> rfl

@[simp] theorem State.hostWrite_phase (s : State) (a : BitVec 4) (d : Word) : (s.hostWrite a d).phase = s.phase := by
  rw [State.hostWrite_eq]
@[simp] theorem State.hostWrite_dispMode (s : State) (a : BitVec 4) (d : Word) :
    (s.hostWrite a d).dispMode = s.dispMode := by rw [State.hostWrite_eq]
@[simp] theorem State.hostWrite_env (s : State) (a : BitVec 4) (d : Word) : (s.hostWrite a d).env = s.env := by
  rw [State.hostWrite_eq]
@[simp] theorem State.hostWrite_cfg (s : State) (a : BitVec 4) (d : Word) : (s.hostWrite a d).cfg = s.cfg := by
  rw [State.hostWrite_eq]

/-! Which of the two kinds a step is. -/

/-- A step that answers either is a move out of reset, or leaves the reset values. -/
theorem step_cases {s t : State} (h : step s = .next t) :
    Move s t ∨ t = s.assertReset.dropTurn ∨ t = s.assertReset.releaseReset.dropTurn := by
  by_cases hr : s.rst = true ∨ s.turn = .rstAssert
  · exact .inr (step_next_in_reset hr h)
  · obtain ⟨hrst, hturn⟩ := not_or.1 hr
    exact .inl (move_of_step (by simpa using hrst) hturn h)

end Sys2Proof.Machine

/-! CLAIM. The invariants (a) to (f) of 10_state.md R45: they hold at reset, every step keeps them, so every reachable state has them (O45 to O48). -/

namespace Sys2Proof.Machine

/-! The elements the invariants speak of, and the half of them that the load's drive depends on. -/

/-- What R45 (a) to (f) read of a state. -/
def State.invView (s : State) : BitVec 4 × (Channel → Ring) × (Channel → AccWord) × DutyWord × Mode × Bool :=
  (s.cursor, s.ring, s.acc, s.duty, s.mode, s.led)

/-- R45 (c), (d) and (e) as one condition on DUTY and MODE; `blockInv_iff` ties it to `BlockInv`. -/
structure DriveOk (duty : DutyWord) (mode : Mode) : Prop where
  /-- (c), below. -/
  min : 300 ≤ duty.toNat
  /-- (c), above. -/
  max : duty.toNat ≤ 1025
  /-- (d). -/
  notSet : mode ≠ .set
  /-- (e). -/
  offDuty : mode = .off ∨ mode = .lvc → duty = 1025#16

@[simp] theorem State.invView_dropTurn (s : State) : s.dropTurn.invView = s.invView := rfl
@[simp] theorem State.invView_advance (s : State) : s.advance.invView = s.invView := rfl
@[simp] theorem State.invView_hostWrite (s : State) (a : BitVec 4) (d : Word) :
    (s.hostWrite a d).invView = s.invView := by rw [State.hostWrite_eq]; rfl
@[simp] theorem State.invView_measure (s : State) : s.measure.invView = s.invView := by
  have hring : s.measure.ring = s.ring := by funext ch; cases ch <;> simp [State.ring]
  have hacc : s.measure.acc = s.acc := by funext ch; cases ch <;> simp [State.acc]
  simp [State.invView, hring, hacc]

/-! Every transition keeps (c), (d) and (e): the one into ON starts from an off duty, the others end in one. -/

theorem DriveOk.of_legal {d : DutyWord} {m new : Mode} (hd : DriveOk d m) (hl : legalTransition m new = true) :
    DriveOk (if m = .on then 1025#16 else d) new := by
  have hoff : DriveOk 1025#16 new := by
    refine ⟨by decide, by decide, ?_, fun _ => rfl⟩
    rintro rfl
    cases m <;> cases hl
  have hduty : (if m = .on then 1025#16 else d) = 1025#16 := by
    split
    case isTrue => rfl
    case isFalse hm =>
      obtain ⟨h, -⟩ | ⟨h, -⟩ | ⟨h, -⟩ | ⟨h, -⟩ := (legalTransition_iff m new).1 hl
      · exact hd.offDuty (.inl h)
      · exact absurd h hm
      · exact absurd h hm
      · exact hd.offDuty (.inr h)
  rwa [hduty]

end Sys2Proof.Machine

namespace Sys2Proof.Safety

open Sys2Proof.Machine

theorem blockInv_iff (s : State) : BlockInv s ↔
    s.cursor.toNat < 12 ∧ (∀ ch, AccIsSum s ch) ∧ DriveOk s.duty s.mode ∧ s.led = true :=
  ⟨fun ⟨hcur, hsum, ⟨hmin, hmax⟩, hset, hoff, hled⟩ =>
      ⟨hcur, (accIsSum_all_iff s).1 hsum, ⟨hmin, hmax, hset, hoff⟩, hled⟩,
    fun ⟨hcur, hsum, ⟨hmin, hmax, hset, hoff⟩, hled⟩ =>
      ⟨hcur, (accIsSum_all_iff s).2 hsum, ⟨hmin, hmax⟩, hset, hoff, hled⟩⟩

/-- A state that agrees on what the invariants read has them too. -/
theorem BlockInv.of_invView_eq {s t : State} (hs : BlockInv s) (h : t.invView = s.invView) : BlockInv t := by
  simp only [State.invView, Prod.mk.injEq] at h
  obtain ⟨hcur, hring, hacc, hduty, hmode, hled⟩ := h
  rw [blockInv_iff] at hs ⊢
  simpa only [AccIsSum, hcur, hring, hacc, hduty, hmode, hled] using hs

/-! Reset (70_reset_and_hazards.md R250). -/

/-- Settles O46. -/
theorem resetSatisfiesTheInvariants : Obligations.ResetSatisfiesTheInvariants := fun c => by
  have hsums : ∀ ch, AccIsSum (State.resetOf c) ch := by
    intro ch; cases ch <;> exact ringSum_zero.symm
  have hdrive : DriveOk Config.dutyOff .off := ⟨by decide, by decide, by decide, fun _ => rfl⟩
  exact (blockInv_iff _).2 ⟨by simp [State.resetOf], hsums, hdrive, rfl⟩

theorem blockInv_assertReset (s : State) : BlockInv s.assertReset :=
  (resetSatisfiesTheInvariants s.cfg).of_invView_eq rfl

/-! The SAMPLE phases keep (a) and (b). -/

theorem BlockInv.inserted {s : State} (hs : BlockInv s) (ch : Channel) (v : RawSample) (h : s.cursor.toNat < 12) :
    BlockInv (s.inserted ch v h) := by
  obtain ⟨-, hsum, hdrive, hled⟩ := (blockInv_iff s).1 hs
  exact (blockInv_iff _).2
    ⟨by simpa using h, State.inserted_accIsSum hsum ch v h, by simpa using hdrive, by simpa using hled⟩

theorem BlockInv.advanceCursor {s : State} (hs : BlockInv s) : BlockInv s.advanceCursor := by
  obtain ⟨-, hsum, hdrive, hled⟩ := (blockInv_iff s).1 hs
  have hcur : s.advanceCursor.cursor.toNat < 12 := by
    rw [State.advanceCursor_cursor, BitVec.toNat_ofNat]; omega
  exact (blockInv_iff _).2 ⟨hcur, hsum, hdrive, hled⟩

/-! The buttons keep (c), (d) and (e) by way of ChangeMode. -/

theorem BlockInv.changeMode {s : State} (hs : BlockInv s) (new : Mode) : BlockInv (s.changeMode new).1 := by
  cases hl : legalTransition s.mode new with
  | true =>
    obtain ⟨hcur, hsum, hdrive, hled⟩ := (blockInv_iff s).1 hs
    rw [State.changeMode_legal hl]
    exact (blockInv_iff _).2 ⟨hcur, hsum, hdrive.of_legal hl, hled⟩
  | false =>
    rw [State.changeMode_rejected hl]
    exact hs.of_invView_eq rfl

theorem BlockInv.buttonA {s : State} (hs : BlockInv s) : BlockInv s.buttonA := by
  have hcleared : BlockInv (s.setPendA false) := hs.of_invView_eq rfl
  unfold State.buttonA
  split
  · split
    · exact hcleared.changeMode .off
    · exact hcleared.changeMode .on
  · exact hs

theorem BlockInv.buttonB {s : State} (hs : BlockInv s) : BlockInv s.buttonB := by
  have hcleared : BlockInv (s.setPendB false) := hs.of_invView_eq rfl
  unfold State.buttonB
  split
  · split
    · exact hcleared.of_invView_eq rfl
    · exact hcleared.changeMode .off
    · exact hcleared
    · exact hcleared
  · exact hs

/-! The regulator steps within the clamps, and only in ON (42_regulator.md R140). -/

/-- In ON, (d) and (e) say nothing of the duty, so any duty in the range of (c) will do. -/
theorem BlockInv.setDuty_on {s : State} (hs : BlockInv s) (hm : s.mode = .on) {d : DutyWord}
    (hmin : 300 ≤ d.toNat) (hmax : d.toNat ≤ 1025) : BlockInv (s.setDuty d) := by
  obtain ⟨hcur, hsum, -, hled⟩ := (blockInv_iff s).1 hs
  have hdrive : DriveOk d s.mode := ⟨hmin, hmax, by simp [hm], by simp [hm]⟩
  exact (blockInv_iff _).2 ⟨hcur, hsum, hdrive, hled⟩

theorem BlockInv.regulateDuty {s : State} (hs : BlockInv s) : BlockInv s.regulateDuty := by
  obtain ⟨hmin, hmax⟩ := hs.duty
  unfold State.regulateDuty
  split
  case isFalse => exact hs
  case isTrue hm =>
    split
    case isTrue => exact (hs.setDuty_on hm (by decide) (by decide)).changeMode .lvc
    case isFalse =>
      split
      case isTrue hdown =>
        have hgt := ((stepsDown_iff _ _ _).1 hdown).2
        have hsub : (s.duty - 1#16).toNat = s.duty.toNat - 1 := BitVec.toNat_sub_of_le (by bv_omega)
        exact hs.setDuty_on hm (by omega) (by omega)
      case isFalse =>
        split
        case isTrue hup =>
          have hlt := ((stepsUp_iff _ _ _).1 hup).2
          have hadd : (s.duty + 1#16).toNat = s.duty.toNat + 1 := BitVec.toNat_add_of_lt (by simp; omega)
          exact hs.setDuty_on hm (by omega) (by omega)
        case isFalse => exact hs

/-! The step, and every run. -/

theorem BlockInv.of_move {s t : State} (hs : BlockInv s) (h : Move s t) : BlockInv t := by
  cases h with
  | hold => exact hs.of_invView_eq rfl
  | sampleSh c _ _ _ h => exact (hs.inserted .shunt c h).of_invView_eq rfl
  | sampleLg c _ _ _ h => exact (hs.inserted .lowGain c h).of_invView_eq rfl
  | sampleHg c _ _ _ h => exact (hs.inserted .highGain c h).advanceCursor.of_invView_eq rfl
  | derive => exact hs.of_invView_eq (by simp)
  | protect => exact hs.of_invView_eq rfl
  | mode => exact hs.buttonA.buttonB.of_invView_eq rfl
  | regulate => exact hs.regulateDuty.of_invView_eq rfl
  | handoff => exact hs.of_invView_eq rfl
  | rd => exact hs.of_invView_eq rfl
  | wr => exact hs.of_invView_eq (by simp)
  | pressA => exact hs.of_invView_eq rfl
  | pressB => exact hs.of_invView_eq rfl
  | release => exact hs.of_invView_eq rfl

/-- Settles O47: out of reset by the kind of move, and in reset because the reset values have the invariants. -/
theorem everyStepKeepsTheInvariants : Obligations.EveryStepKeepsTheInvariants := by
  intro s t hs hstep
  obtain hmove | rfl | rfl := step_cases hstep
  · exact hs.of_move hmove
  · exact (blockInv_assertReset s).of_invView_eq rfl
  · exact (blockInv_assertReset s).of_invView_eq rfl

/-- What every step keeps, every run keeps. -/
theorem runSteps_keeps {P : State → Prop} (hkeep : ∀ s t, P s → step s = .next t → P t) (n : Nat) (s t : State)
    (hs : P s) (hrun : runSteps n s = .next t) : P t := by
  induction n generalizing s with
  | zero => cases hrun; exact hs
  | succ n ih =>
    rw [runSteps] at hrun
    split at hrun
    case h_1 u hu => exact ih u (hkeep s u hs hu) hrun
    case h_2 => cases hrun
    case h_3 => cases hrun

/-- Settles O48: the turn list is nothing the invariants read, so the run starts from them by O46 and keeps them by O47. -/
theorem reachableStatesSatisfyTheInvariants : Obligations.ReachableStatesSatisfyTheInvariants := by
  intro c turns n t hrun
  refine runSteps_keeps everyStepKeepsTheInvariants n _ t ?_ hrun
  exact (resetSatisfiesTheInvariants c).of_invView_eq rfl

/-- Settles O45: (d) leaves OFF and LVC, where (e) puts the duty at 1025. -/
theorem everyModeButOnIsFullyOff : Obligations.EveryModeButOnIsFullyOff := by
  intro s hs hon
  have hoff : s.mode = .off ∨ s.mode = .lvc := by
    cases hm : s.mode with
    | off => exact .inl rfl
    | set => exact absurd hm hs.notSet
    | on => exact absurd hm hon
    | lvc => exact .inr rfl
  have hduty : s.dutyOut = 1025#16 := hs.offDuty hoff
  exact ⟨by simp [State.loadEn, hon], by rw [hduty]; decide⟩

end Sys2Proof.Safety

/-! CLAIM. Rules of every step (10_state.md R22, R32, R43): the turn list and the configuration, PHASE, and DISP_MODE (O32, O33, O37). -/

namespace Sys2Proof.Machine

open Sys2Proof.Safety

/-! One turn, and the configuration. -/

/-- No move writes the configuration, and the turn list only by the turn taken. -/
theorem Move.env_cfg {s t : State} (h : Move s t) : t.env = s.env.tail ∧ t.cfg = s.cfg := by
  cases h <;> simp

/-- Settles O32: each kind of move, and reset too, writes neither field but for the turn taken. -/
theorem aStepTakesOneTurnAndKeepsTheConfiguration : Obligations.AStepTakesOneTurnAndKeepsTheConfiguration := by
  intro s t hstep
  obtain hmove | rfl | rfl := step_cases hstep
  · exact hmove.env_cfg
  · simp
  · simp

/-! PHASE (R22). -/

/-- SEQ's handshake in phase `p` is not answered by what stands on its ports (60_exceptions.md R221); `State.hold_ne_none_iff` ties it to the model's holds. -/
def Waits (p : PhaseWord) (adc : Option RawSample) (ack : Bool) : Prop :=
  (p.toNat ≤ 2 ∧ adc = none) ∨ (p = 7#3 ∧ ack = false)

theorem State.hold_ne_none_iff {s : State} {adc : Option RawSample} {ack : Bool} (hr : s.rst = false)
    (ht : s.turn = .seq adc ack) : s.hold ≠ none ↔ Waits s.phase adc ack := by
  have hreq : s.adcReq = decide (s.phase.toNat ≤ 2) := by simp [State.adcReq, hr]
  have hval : s.frameValid = decide (s.phase = 7#3) := by simp [State.frameValid, hr]
  rw [State.hold, State.adcPort_seq ht, State.dispAck_seq ht, hreq, hval, Waits]
  by_cases hadc : s.phase.toNat ≤ 2 ∧ adc = none
  · simp [hadc]
  · by_cases hack : s.phase = 7#3 ∧ ack = false
    · simp [hack]
    · cases adc <;> cases ack <;> simp_all

/-- A move advances PHASE in SEQ's turn, its handshake answered, and in every other case keeps it. -/
theorem Move.phase_cases {s t : State} (h : Move s t) :
    (∃ adc ack, s.turn = .seq adc ack ∧ ¬ Waits s.phase adc ack ∧ t.phase = s.phase + 1#3) ∨
    ((∀ adc ack, s.turn = .seq adc ack → Waits s.phase adc ack) ∧ t.phase = s.phase) := by
  cases h with
  | hold adc ack ht hw =>
    refine .inr ⟨fun adc' ack' ht' => ?_, rfl⟩
    obtain ⟨rfl, rfl⟩ : adc = adc' ∧ ack = ack' := by simpa [ht] using ht'
    exact hw
  | sampleSh c ack ht hp => exact .inl ⟨_, _, ht, by simp [Waits, hp], by simp⟩
  | sampleLg c ack ht hp => exact .inl ⟨_, _, ht, by simp [Waits, hp], by simp⟩
  | sampleHg c ack ht hp => exact .inl ⟨_, _, ht, by simp [Waits, hp], by simp⟩
  | derive adc ack ht hp => exact .inl ⟨_, _, ht, by simp [Waits, hp], by simp⟩
  | protect adc ack ht hp => exact .inl ⟨_, _, ht, by simp [Waits, hp], by simp⟩
  | mode adc ack ht hp => exact .inl ⟨_, _, ht, by simp [Waits, hp], by simp⟩
  | regulate adc ack ht hp => exact .inl ⟨_, _, ht, by simp [Waits, hp], by simp⟩
  | handoff adc ht hp => exact .inl ⟨_, _, ht, by simp [Waits, hp], by simp⟩
  | rd w a ht => exact .inr ⟨by simp [ht], by simp⟩
  | wr w a d ht => exact .inr ⟨by simp [ht], by simp⟩
  | pressA ht => exact .inr ⟨by simp [ht], by simp⟩
  | pressB ht => exact .inr ⟨by simp [ht], by simp⟩
  | release ht => exact .inr ⟨by simp [ht], by simp⟩

/-- Settles O33. -/
theorem phaseAdvancesByOneOrStays : Obligations.PhaseAdvancesByOneOrStays := by
  rintro s t ⟨hr, hn⟩ hstep
  obtain ⟨adc, ack, ht, hw, hp⟩ | ⟨hw, hp⟩ := (move_of_step hr hn hstep).phase_cases
  · have hdone : s.hold = none := not_not.1 (mt (State.hold_ne_none_iff hr ht).1 hw)
    refine ⟨fun _ _ _ _ => ?_, fun _ _ _ hh => absurd hdone hh, fun henv => absurd ht (henv adc ack)⟩
    rw [hp, BitVec.toNat_add]
    rfl
  · exact ⟨fun adc ack ht hh => absurd hh ((State.hold_ne_none_iff hr ht).2 (hw adc ack ht)),
      fun _ _ _ _ => hp, fun _ => hp⟩

/-! DISP_MODE (R32, 44_mode.md R174, R176). -/

/-- Only the MODE phase can change DISP_MODE. -/
theorem Move.dispMode_cases {s t : State} (h : Move s t) :
    t.dispMode = s.dispMode ∨
    ((∃ adc ack, s.turn = .seq adc ack) ∧ s.phase = 5#3 ∧ t = s.buttonA.buttonB.advance.dropTurn) := by
  cases h with
  | mode adc ack ht hp => exact .inr ⟨⟨adc, ack, ht⟩, hp, rfl⟩
  | _ => exact .inl (by simp)

/-- Settles O37: in the MODE phase button B cycles the display exactly where A left OFF. -/
theorem displayCyclesOnlyWhileOff : Obligations.DisplayCyclesOnlyWhileOff := by
  rintro s t ⟨hr, hn⟩ hstep hne
  obtain hsame | ⟨hseq, hp, rfl⟩ := (move_of_step hr hn hstep).dispMode_cases
  · exact absurd hsame hne
  have hdisp := s.buttonA.buttonB_dispMode
  rw [State.buttonA_pendB, State.buttonA_dispMode] at hdisp
  simp only [State.dropTurn_dispMode, State.advance_dispMode] at hne ⊢
  split at hdisp
  case isFalse => exact absurd hdisp hne
  case isTrue hoff =>
    obtain ⟨hb, hoffA⟩ := hoff
    have hmode : s.buttonA.buttonB.mode = .off := by rw [State.buttonB_mode, hoffA]; simp
    have hleft : (s.mode = .off ∧ s.pendA = false) ∨ (s.mode = .on ∧ s.pendA = true) := by
      rw [State.buttonA_mode] at hoffA
      cases hpa : s.pendA <;> cases hm : s.mode <;> simp [hpa, hm] at hoffA ⊢
    exact ⟨hseq, hp, hb, hleft, by simpa using hmode, hdisp ▸ nextDisp_mem_cycle s.dispMode⟩

end Sys2Proof.Machine

/-! CLAIM. The views of the state: STATUS (10_state.md R41), LOAD_EN (R39) and the output ports (R42, 45_handoff_and_host.md R201) (O27, O43, O44). -/

namespace Sys2Proof.Machine

theorem State.loadEn_iff (s : State) : s.loadEn = true ↔ s.mode = .on := by simp [State.loadEn]

/-- Settles O43. -/
theorem loadEnableIsModeOn : Obligations.LoadEnableIsModeOn := ⟨State.loadEn_iff, fun _ => rfl⟩

/-! STATUS. -/

/-- A write to address 0 reaches no register, whether or not `rst` is asserted. -/
theorem exec_wr_status (s : State) (d : Word) : exec (.wr 0x0#4 d) s = .next s := by
  show Host.Outcome.next (if s.rst then s else s) = .next s
  rw [ite_self]

/-- STATUS is its fields side by side; the cast keeps the sum of their widths, which the rules for `++` need. -/
theorem State.status_eq (s : State) : s.status = BitVec.cast rfl
    (0#18 ++ s.phase ++ BitVec.ofBool s.pendB ++ BitVec.ofBool s.pendA ++ BitVec.ofBool s.lastOk
      ++ BitVec.ofBool s.led ++ BitVec.ofBool s.loadEn ++ BitVec.ofBool s.fan ++ BitVec.ofBool s.highGain
      ++ dispCode s.dispMode ++ modeCode s.mode) := rfl

/-! The fields wider than a bit. -/

theorem State.status_mode (s : State) : s.status.extractLsb' 0 2 = modeCode s.mode :=
  BitVec.extractLsb'_append_eq_right

theorem State.status_dispMode (s : State) : s.status.extractLsb' 2 2 = dispCode s.dispMode := by
  simp (disch := decide) only [State.status_eq, BitVec.extractLsb'_cast, BitVec.extractLsb'_append_eq_of_le,
    BitVec.extractLsb'_append_eq_of_add_le]
  exact BitVec.extractLsb'_eq_self

theorem State.status_phase (s : State) : s.status.extractLsb' 11 3 = s.phase := by
  simp (disch := decide) only [State.status_eq, BitVec.extractLsb'_cast, BitVec.extractLsb'_append_eq_of_le,
    BitVec.extractLsb'_append_eq_of_add_le]
  exact BitVec.extractLsb'_eq_self

theorem State.status_reserved (s : State) : s.status.extractLsb' 14 18 = 0#18 := by
  simp (disch := decide) only [State.status_eq, BitVec.extractLsb'_cast, BitVec.extractLsb'_append_eq_of_le]
  exact BitVec.extractLsb'_eq_self

/-- Bits 4 to 10 of STATUS, one element each. -/
theorem State.status_bits (s : State) :
    s.status.getLsbD 4 = s.highGain ∧ s.status.getLsbD 5 = s.fan ∧ s.status.getLsbD 6 = s.loadEn ∧
    s.status.getLsbD 7 = s.led ∧ s.status.getLsbD 8 = s.lastOk ∧ s.status.getLsbD 9 = s.pendA ∧
    s.status.getLsbD 10 = s.pendB := by
  simp only [State.status_eq, BitVec.getLsbD_cast, BitVec.getLsbD_append, BitVec.getLsbD_ofBool, ↓reduceIte,
    Nat.reduceLT, Nat.reduceSub]
  simp

theorem status_resetOf (c : Config) : (State.resetOf c).status = 0x80#32 := by
  simp [State.status, State.loadEn, State.resetOf, dispCode, modeCode]

/-- Settles O27. -/
theorem statusFieldsAreTheNamedElements : Obligations.StatusFieldsAreTheNamedElements := by
  refine ⟨fun s => ?_, status_resetOf⟩
  obtain ⟨hHg, hFan, hLoad, hLed, hOk, hA, hB⟩ := s.status_bits
  refine ⟨rfl, ?_, ?_, hHg, hFan, hLoad, hLed, hOk, hA, hB, s.status_phase, s.status_reserved, exec_wr_status s⟩
  · rw [s.status_mode]
    cases s.mode <;> rfl
  · rw [s.status_dispMode]
    cases s.dispMode <;> rfl

/-! The output ports, out of reset. -/

theorem State.adcReq_iff {s : State} (hr : s.rst = false) : s.adcReq = true ↔ s.phase.toNat ≤ 2 := by
  simp [State.adcReq, hr]

theorem State.frameValid_iff {s : State} (hr : s.rst = false) : s.frameValid = true ↔ s.phase = 7#3 := by
  simp [State.frameValid, hr]

/-- PHASE[1:0] is PHASE itself while a conversion is requested. -/
theorem State.adcCh_toNat {s : State} (h : s.phase.toNat ≤ 2) : s.adcCh.toNat = s.phase.toNat := by
  rw [State.adcCh, BitVec.extractLsb'_toNat, Nat.shiftRight_zero]
  omega

theorem State.frame_eq_none {s : State} (h : s.frameValid = false) : s.frame = none := by simp [State.frame, h]

/-- Settles O44. -/
theorem outputPortsAreTheirEquations : Obligations.OutputPortsAreTheirEquations := by
  intro s hr
  have hreq := State.adcReq_iff hr
  have hvalid := State.frameValid_iff hr
  refine ⟨hreq, fun h => State.adcCh_toNat (hreq.1 h), hvalid, rfl, rfl, rfl, s.loadEn_iff, fun hp => ?_, fun hp => ?_⟩
  · exact State.frame_eq_none (Bool.eq_false_iff.2 (mt hvalid.1 hp))
  · exact ⟨_, if_pos (hvalid.2 hp), rfl, rfl, rfl, rfl, rfl, rfl, rfl, rfl, rfl⟩

end Sys2Proof.Machine

/-! CLAIM. The atomic step of 20_memory.md R65, and R66's writers of the setpoints and the latches (O6, O36). -/

namespace Sys2Proof.Machine

open Sys2Proof.Safety

/-! A step with a code word to run (R65, 30_encoding.md R80). -/

theorem State.fetch_seq {s : State} {adc : Option RawSample} {ack : Bool} (hr : s.rst = false)
    (ht : s.turn = .seq adc ack) : s.fetch = some (.p s.phase) := by simp [State.fetch, ht, hr]

theorem State.fetch_host {s : State} {w : HostWord} (ht : s.turn = .host w) : s.fetch = some (.h w) := by
  simp [State.fetch, ht]

/-- Out of reset, a step with a code word runs the instruction it decodes to and takes the turn. -/
theorem step_of_fetch {s : State} {w : CodeWord} (ha : admitted s.cfg = true) (hr : s.rst = false)
    (hf : s.fetch = some w) : step s = thenNext State.dropTurn (exec (decodeWord w) s) := by
  rw [step, if_pos ha, State.settle_out s hr, takeTurn, hf]

/-- Settles O6: SEQ's turn fetches PHASE and the host's turn its word, and `State.dropTurn` is the turn taken. -/
theorem stepRunsTheDecodedWord : Obligations.StepRunsTheDecodedWord := fun _ ha hr =>
  ⟨fun _ _ ht => step_of_fetch ha hr (State.fetch_seq hr ht),
    fun _ ht => step_of_fetch ha hr (State.fetch_host ht)⟩

/-! The setpoints: each is written by a host WRITE to its own address, and by nothing else. -/

theorem State.hostWrite_target_cases (s : State) (a : BitVec 4) (d : Word) :
    (s.hostWrite a d).target = s.target ∨ (a = 0x1#4 ∧ (s.hostWrite a d).target = d) := by
  obtain h | ⟨ha, h⟩ | ⟨-, h⟩ := s.hostWrite_cases a d <;> rw [h]
  · exact .inl rfl
  · exact .inr ⟨ha, rfl⟩
  · exact .inl rfl

theorem State.hostWrite_lvcut_cases (s : State) (a : BitVec 4) (d : Word) :
    (s.hostWrite a d).lvcut = s.lvcut ∨ (a = 0x2#4 ∧ (s.hostWrite a d).lvcut = d) := by
  obtain h | ⟨-, h⟩ | ⟨ha, h⟩ := s.hostWrite_cases a d <;> rw [h]
  · exact .inl rfl
  · exact .inl rfl
  · exact .inr ⟨ha, rfl⟩

/-- A move keeps both setpoints or is a host WRITE. -/
theorem Move.setpoint_cases {s t : State} (h : Move s t) :
    (t.target = s.target ∧ t.lvcut = s.lvcut) ∨
    ∃ w a d, s.turn = .host w ∧ decodeWord (.h w) = .wr a d ∧ t = (s.hostWrite a d).dropTurn := by
  cases h with
  | wr w a d ht hw => exact .inr ⟨w, a, d, ht, hw, rfl⟩
  | _ => exact .inl (by simp)

theorem Move.target_writer {s t : State} (h : Move s t) (hne : t.target ≠ s.target) :
    ∃ w, s.turn = .host w ∧ decodeWord (.h w) = .wr 0x1#4 t.target := by
  obtain ⟨hsame, -⟩ | ⟨w, a, d, ht, hw, rfl⟩ := h.setpoint_cases
  · exact absurd hsame hne
  obtain hsame | ⟨rfl, hd⟩ := s.hostWrite_target_cases a d
  · exact absurd hsame hne
  · exact ⟨w, ht, by rw [hw, State.dropTurn_target, hd]⟩

theorem Move.lvcut_writer {s t : State} (h : Move s t) (hne : t.lvcut ≠ s.lvcut) :
    ∃ w, s.turn = .host w ∧ decodeWord (.h w) = .wr 0x2#4 t.lvcut := by
  obtain ⟨-, hsame⟩ | ⟨w, a, d, ht, hw, rfl⟩ := h.setpoint_cases
  · exact absurd hsame hne
  obtain hsame | ⟨rfl, hd⟩ := s.hostWrite_lvcut_cases a d
  · exact absurd hsame hne
  · exact ⟨w, ht, by rw [hw, State.dropTurn_lvcut, hd]⟩

/-! The latches: a press sets its own, the MODE phase clears both (44_mode.md R173, R174). -/

@[simp] theorem State.hostWrite_pendA (s : State) (a : BitVec 4) (d : Word) : (s.hostWrite a d).pendA = s.pendA := by
  rw [State.hostWrite_eq]
@[simp] theorem State.hostWrite_pendB (s : State) (a : BitVec 4) (d : Word) : (s.hostWrite a d).pendB = s.pendB := by
  rw [State.hostWrite_eq]

/-- Button A leaves its latch clear: it clears it where it is set and does nothing elsewhere. -/
@[simp] theorem State.buttonA_pendA (s : State) : s.buttonA.pendA = false := by
  unfold State.buttonA
  split
  case isTrue => split <;> simp
  case isFalse hp => simpa using hp

/-- Button B leaves its latch clear, in every mode. -/
@[simp] theorem State.buttonB_pendB (s : State) : s.buttonB.pendB = false := by
  unfold State.buttonB
  split
  case isTrue => split <;> simp
  case isFalse hp => simpa using hp

/-- What a move does to the latches: nothing, a press sets one and keeps the other, or the MODE phase clears both. -/
theorem Move.latch_cases {s t : State} (h : Move s t) :
    (t.pendA = s.pendA ∧ t.pendB = s.pendB) ∨
    (s.turn = .pressA ∧ t.pendA = true ∧ t.pendB = s.pendB) ∨
    (s.turn = .pressB ∧ t.pendA = s.pendA ∧ t.pendB = true) ∨
    ((s.phase = 5#3 ∧ ∃ adc ack, s.turn = .seq adc ack) ∧ t.pendA = false ∧ t.pendB = false) := by
  cases h with
  | pressA ht => exact .inr (.inl ⟨ht, rfl, rfl⟩)
  | pressB ht => exact .inr (.inr (.inl ⟨ht, rfl, rfl⟩))
  | mode adc ack ht hp => exact .inr (.inr (.inr ⟨⟨hp, adc, ack, ht⟩, by simp, by simp⟩))
  | _ => exact .inl (by simp)

/-- Settles O36: the setpoints by their writers, and the latches in each of the four cases of `Move.latch_cases`. -/
theorem setpointsAndLatchesHaveTheirWriters : Obligations.SetpointsAndLatchesHaveTheirWriters := by
  rintro s t ⟨hr, hn⟩ hstep
  have hmove := move_of_step hr hn hstep
  refine ⟨hmove.target_writer, hmove.lvcut_writer, ?_⟩
  obtain ⟨hA, hB⟩ | ⟨ht, hA, hB⟩ | ⟨ht, hA, hB⟩ | ⟨hmode, hA, hB⟩ := hmove.latch_cases <;> rw [hA, hB]
  · simp +contextual
  · simp +contextual [ht]
  · simp +contextual [ht]
  · exact ⟨by simp, by simp, fun _ _ => hmode, fun _ _ => hmode⟩

end Sys2Proof.Machine

/-! CLAIM. The two formats of 30_encoding.md and their byte layout: the encoder and the decoder undo each other, and every word decodes (O1 to O5). -/

namespace Sys2Proof

/-! Format P (30_encoding.md R84): eight codes, eight phases. -/

theorem decodePhase_eq_table : ∀ ppp : PhaseWord,
    [Instr.sampleSh, .sampleLg, .sampleHg, .derive, .protect, .mode, .regulate, .handoff][ppp.toNat]?
      = some (decodePhase ppp) := by decide

theorem encode_decodePhase : ∀ ppp : PhaseWord, encode (decodePhase ppp) = .p ppp := by decide

/-! Format H (30_encoding.md R82, R85): a word is its three fields side by side, so both directions follow from its value as their sum. -/

theorem toNat_append_eq_add {m n : Nat} (x : BitVec m) (y : BitVec n) :
    (x ++ y).toNat = 2 ^ n * x.toNat + y.toNat := by
  rw [BitVec.toNat_append, Nat.shiftLeft_eq, Nat.mul_comm, Nat.two_pow_add_eq_or_of_lt y.isLt]

theorem hostWord_toNat (we : BitVec 1) (a : BitVec 4) (d : Word) :
    (hostWord we a d).toNat = 2 ^ 36 * we.toNat + 2 ^ 32 * a.toNat + d.toNat := by
  rw [hostWord, toNat_append_eq_add, toNat_append_eq_add]
  omega

@[simp] theorem hostWe_hostWord_ofBool (we : Bool) (a : BitVec 4) (d : Word) :
    hostWe (hostWord (.ofBool we) a d) = we := by
  rw [hostWe, Laws.hostWe_hostWord]
  cases we <;> rfl

@[simp] theorem hostAddr_hostWord (we : BitVec 1) (a : BitVec 4) (d : Word) : hostAddr (hostWord we a d) = a := by
  apply BitVec.eq_of_toNat_eq
  rw [hostAddr, BitVec.extractLsb'_toNat, hostWord_toNat, Nat.shiftRight_eq_div_pow]
  omega

@[simp] theorem hostData_hostWord (we : BitVec 1) (a : BitVec 4) (d : Word) : hostData (hostWord we a d) = d :=
  BitVec.extractLsb'_append_eq_right

theorem ofBool_hostWe_toNat (w : HostWord) : (BitVec.ofBool (hostWe w)).toNat = w.toNat / 2 ^ 36 % 2 := by
  rw [hostWe, BitVec.getLsbD, Nat.testBit_eq_decide_div_mod_eq, BitVec.toNat_ofBool]
  obtain h | h := Nat.mod_two_eq_zero_or_one (w.toNat / 2 ^ 36) <;> simp only [h] <;> rfl

theorem hostWord_fields (w : HostWord) : hostWord (.ofBool (hostWe w)) (hostAddr w) (hostData w) = w := by
  apply BitVec.eq_of_toNat_eq
  simp only [hostWord_toNat, ofBool_hostWe_toNat, hostAddr, hostData, BitVec.extractLsb'_toNat,
    Nat.shiftRight_eq_div_pow]
  omega

/-- Clearing DATA leaves WE and ADDR, which is the word a READ is encoded as (R89). -/
theorem hostWord_data_cleared (w : HostWord) :
    (w >>> 32) <<< 32 = hostWord (.ofBool (hostWe w)) (hostAddr w) 0#32 := by
  have hw := congrArg BitVec.toNat (hostWord_fields w)
  rw [hostWord_toNat] at hw
  apply BitVec.eq_of_toNat_eq
  rw [BitVec.toNat_shiftLeft, BitVec.toNat_ushiftRight, hostWord_toNat, Nat.shiftLeft_eq, Nat.shiftRight_eq_div_pow,
    BitVec.toNat_ofNat]
  omega

theorem decodeHost_read {w : HostWord} (h : hostWe w = false) : decodeHost w = .rd (hostAddr w) := by
  simp [decodeHost, h]

theorem decodeHost_write {w : HostWord} (h : hostWe w = true) : decodeHost w = .wr (hostAddr w) (hostData w) := by
  simp [decodeHost, h]

theorem decodeWord_encode (i : Instr) : decodeWord (encode i) = i := by
  cases i with
  | rd a => exact (decodeHost_read (hostWe_hostWord_ofBool false a 0#32)).trans (by simp)
  | wr a d => exact (decodeHost_write (hostWe_hostWord_ofBool true a d)).trans (by simp)
  | _ => rfl

/-! The byte layout (log 12). -/

theorem joinBytes_toNat (b0 b1 b2 b3 b4 : Byte) : (joinBytes b0 b1 b2 b3 b4).toNat =
    b0.toNat + 256 * (b1.toNat + 256 * (b2.toNat + 256 * (b3.toNat + 256 * b4.toNat))) := by
  simp only [joinBytes, toNat_append_eq_add]
  omega

theorem bytesToWord_wordToBytes (w : CodeWord) : bytesToWord (wordToBytes w) = .ok w := by
  cases w with
  | p ppp =>
    revert ppp
    decide
  | h w =>
    simp only [wordToBytes, leBytes, bytesToWord]
    have htop : (BitVec.ofNat 8 (w.toNat / 256 / 256 / 256 / 256)).toNat < 32 := by
      rw [BitVec.toNat_ofNat]
      omega
    rw [if_pos htop]
    congr 2
    apply BitVec.eq_of_toNat_eq
    rw [BitVec.toNat_setWidth, joinBytes_toNat]
    simp only [BitVec.toNat_ofNat]
    omega

theorem decodeBytes_eq_ok {bs : List Byte} {i : Instr} :
    decodeBytes bs = .ok i ↔ ∃ w, bytesToWord bs = .ok w ∧ decodeWord w = i := by
  unfold decodeBytes
  cases bytesToWord bs <;> simp

theorem bytesToWord_eq_ok {bs : List Byte} : (∃ w, bytesToWord bs = .ok w) ↔
    (∃ b, bs = [b] ∧ b.toNat < 8) ∨ (∃ b0 b1 b2 b3 b4, bs = [b0, b1, b2, b3, b4] ∧ b4.toNat < 32) := by
  unfold bytesToWord
  split
  case h_1 b => by_cases hb : b.toNat < 8 <;> simp [hb]
  case h_2 b0 b1 b2 b3 b4 => by_cases hb : b4.toNat < 32 <;> simp [hb]
  case h_3 hone hfive => simpa using ⟨fun b hb => (hone b hb).elim, fun _ _ _ _ _ hb => (hfive _ _ _ _ _ hb).elim⟩

/-- Settles O3: the words by the cases of the encoder, and the bytes because they make the encoded word again. -/
theorem decodeUndoesEncode : Obligations.DecodeUndoesEncode := fun i _ =>
  ⟨decodeWord_encode i, decodeBytes_eq_ok.2 ⟨encode i, bytesToWord_wordToBytes _, decodeWord_encode i⟩⟩

/-- Settles O4: a host word is its fields, and a READ's has DATA cleared. -/
theorem encodeUndoesDecode : Obligations.EncodeUndoesDecode := by
  refine ⟨encode_decodePhase, fun w h => ?_, fun w h => ?_⟩
  all_goals change hostWe w = _ at h
  · have hw := hostWord_fields w
    rw [h] at hw
    rw [decodeWord, decodeHost_write h]
    exact congrArg CodeWord.h hw
  · have hw := hostWord_data_cleared w
    rw [h] at hw
    rw [decodeWord, decodeHost_read h, hw]
    rfl

/-- Settles O5: decoding a word is total, so only the byte layout can reject. -/
theorem bytesDecodeExactlyWhenWellFormed : Obligations.BytesDecodeExactlyWhenWellFormed := by
  intro bs
  rw [← bytesToWord_eq_ok]
  simp only [decodeBytes_eq_ok]
  exact ⟨fun ⟨_, w, hw, _⟩ => ⟨w, hw⟩, fun ⟨w, hw⟩ => ⟨_, w, hw, rfl⟩⟩

/-- Settles O2. -/
theorem everyWordOfBothFormatsDecodes : Obligations.EveryWordOfBothFormatsDecodes :=
  ⟨decodePhase_eq_table, fun _ => decodeHost_read, fun _ => decodeHost_write⟩

/-- Settles O1. -/
theorem wordsWrittenFromTheSpecDecode : Obligations.WordsWrittenFromTheSpecDecode := by
  unfold Obligations.WordsWrittenFromTheSpecDecode
  decide

end Sys2Proof

/-! CLAIM. A cycle runs the eight phases and comes back to PHASE 0 (O50; 30_encoding.md R84, R90, 40_sampler.md R105). -/

namespace Sys2Proof.Machine

open Sys2Proof.Safety

/-! SEQ's turn, out of reset: every phase answers, only a SAMPLE step writes the rings, and nothing asserts `rst`. -/

theorem samplePhase_next {s : State} (h : s.cursor.toNat < 12) (ch : Channel) (k : PhaseWord)
    (finish : State → State) : ∃ u, samplePhase ch k finish s = .next u := by
  obtain ⟨-, q⟩ | ⟨-, -, q⟩ | ⟨-, _, -, hge, -⟩ | ⟨-, _, -, _, q⟩ := samplePhase_cases ch k finish s
  · exact ⟨_, q⟩
  · exact ⟨_, q⟩
  · omega
  · exact ⟨_, q⟩

theorem exec_phase_next {s : State} (ha : admitted s.cfg = true) (hr : s.rst = false) (hc : s.cursor.toNat < 12) :
    ∃ u, exec (decodeWord (.p s.phase)) s = .next u := by
  obtain hp | hp | hp | hp | hp | hp | hp | hp := phase_cases s.phase <;> rw [hp]
  · exact samplePhase_next hc .shunt 0#3 _
  · exact samplePhase_next hc .lowGain 1#3 _
  · exact samplePhase_next hc .highGain 2#3 _
  · exact ⟨_, (exec_derive_enabled hr hp).trans (if_pos ha)⟩
  · exact ⟨_, exec_protect_enabled hr hp⟩
  · exact ⟨_, exec_mode_enabled hr hp⟩
  · exact ⟨_, exec_regulate_enabled hr hp⟩
  · exact ⟨_, exec_handoff_enabled hr hp⟩

theorem Move.rst {s t : State} (h : Move s t) : t.rst = s.rst := by
  cases h with
  | wr w a d => rw [State.dropTurn_rst, State.hostWrite_eq]
  | _ => simp

/-- Without a delivery in a SAMPLE phase, the rings and the cursor stay (R107). -/
theorem Move.keeps_rings {s t : State} (h : Move s t) (hn : 3 ≤ s.phase.toNat ∨ s.adcPort = none) :
    t.cursor = s.cursor ∧ t.ring = s.ring := by
  cases h with
  | sampleSh c ack ht hp => simp [hp, State.adcPort_seq ht] at hn
  | sampleLg c ack ht hp => simp [hp, State.adcPort_seq ht] at hn
  | sampleHg c ack ht hp => simp [hp, State.adcPort_seq ht] at hn
  | wr w a d => rw [State.hostWrite_eq]; exact ⟨rfl, rfl⟩
  | _ => exact ⟨by simp, by funext ch; cases ch <;> simp [State.ring]⟩

/-! A SAMPLE phase with its delivery (40_sampler.md R102 to R104). -/

/-- The phase that samples a channel; `exec_sample` ties it to the decoder. -/
def Channel.phase : Channel → PhaseWord
  | .shunt => 0#3
  | .lowGain => 1#3
  | .highGain => 2#3

/-- What follows the insert in a channel's SAMPLE phase: after the last channel the cursor moves on (R104). -/
def State.afterInsert (s : State) : Channel → State
  | .shunt => s
  | .lowGain => s
  | .highGain => s.advanceCursor

theorem samplePhase_delivered {s : State} {k : PhaseWord} {v : RawSample} (hr : s.rst = false) (hp : s.phase = k)
    (hv : s.adcPort = some v) (h : s.cursor.toNat < 12) (ch : Channel) (finish : State → State) :
    samplePhase ch k finish s = .next (finish (s.inserted ch v h)) := by
  simp [samplePhase, phaseOp_enabled hr hp, hv, State.sampleInsert_inside s ch v h]

theorem exec_sample {s : State} {v : RawSample} (ch : Channel) (hr : s.rst = false) (hp : s.phase = ch.phase)
    (hv : s.adcPort = some v) (h : s.cursor.toNat < 12) :
    exec (decodeWord (.p s.phase)) s = .next ((s.inserted ch v h).afterInsert ch).advance := by
  rw [hp]
  cases ch with
  | shunt => exact samplePhase_delivered hr hp hv h .shunt _
  | lowGain => exact samplePhase_delivered hr hp hv h .lowGain _
  | highGain => exact samplePhase_delivered hr hp hv h .highGain _

theorem State.histRead_of_ring_eq {s t : State} {ch : Channel} (h : t.ring ch = s.ring ch) (i : Nat) :
    t.histRead ch i = s.histRead ch i := by simp only [State.histRead, h]

/-- SampleInsert replaces the cursor's cell of its channel and no other. -/
theorem State.inserted_histRead (s : State) (ch : Channel) (v : RawSample) (h : s.cursor.toNat < 12) (d : Channel)
    (i : Nat) : (s.inserted ch v h).histRead d i =
      if d = ch ∧ i = s.cursor.toNat then .ok v else s.histRead d i := by
  by_cases hd : d = ch
  · subst hd
    simp only [State.histRead, State.inserted_ring_same, Vector.getElem_set]
    by_cases hi : i = s.cursor.toNat
    · simp [hi, h]
    · simp [hi, Ne.symm hi]
  · rw [if_neg (fun hc => hd hc.1), State.histRead_of_ring_eq (State.inserted_ring_other s ch v h hd)]

theorem State.afterInsert_ring (s : State) (ch : Channel) : (s.afterInsert ch).ring = s.ring := by cases ch <;> rfl

theorem State.afterInsert_cursor {s : State} (ch : Channel) : (s.afterInsert ch).cursor.toNat =
    if ch = .highGain then (s.cursor.toNat + 1) % 12 else s.cursor.toNat := by
  cases ch <;> simp [State.afterInsert]
  omega

end Sys2Proof.Machine

namespace Sys2Proof.Safety

open Sys2Proof.Machine

/-! Runs. -/

theorem runSteps_of_step {s u : State} (h : step s = .next u) (n : Nat) : runSteps (n + 1) s = runSteps n u := by
  simp only [runSteps, h]

theorem runSteps_add {s u : State} {m : Nat} (h : runSteps m s = .next u) (n : Nat) :
    runSteps (m + n) s = runSteps n u := by
  induction m generalizing s with
  | zero =>
    cases h
    rw [Nat.zero_add]
  | succ m ih =>
    rw [Nat.add_right_comm]
    rw [runSteps] at h ⊢
    cases hs : step s with
    | next v => rw [hs] at h; exact ih h
    | fault _ => rw [hs] at h; cases h
    | refused _ => rw [hs] at h; cases h

/-- SEQ is about to run phase `p`, in a state with the invariants, and these turns are to come. -/
structure SeqReady (s : State) (p : PhaseWord) (env : List Turn) : Prop where
  inv : BlockInv s
  admitted : admitted s.cfg = true
  out : s.rst = false
  phase : s.phase = p
  env : s.env = env

section
variable {s : State} {p : PhaseWord} {adc : Option RawSample} {ack : Bool} {rest : List Turn}

theorem SeqReady.turn (h : SeqReady s p (.seq adc ack :: rest)) : s.turn = .seq adc ack := by
  rw [State.turn, h.env]

theorem SeqReady.step_eq (h : SeqReady s p (.seq adc ack :: rest)) :
    step s = thenNext State.dropTurn (exec (decodeWord (.p s.phase)) s) :=
  step_of_fetch h.admitted h.out (State.fetch_seq h.out h.turn)

/-- SEQ's turn with its handshake answered is a move to the next phase. -/
theorem SeqReady.advances (h : SeqReady s p (.seq adc ack :: rest)) (hw : ¬ Waits p adc ack) :
    ∃ t, step s = .next t ∧ Move s t ∧ SeqReady t (p + 1#3) rest := by
  obtain ⟨u, hu⟩ := exec_phase_next h.admitted h.out h.inv.cursor
  have hstep : step s = .next u.dropTurn := by rw [h.step_eq, hu, thenNext_of_next]
  have hmove : Move s u.dropTurn := move_of_seq h.out h.turn hu
  obtain ⟨henv, hcfg⟩ := hmove.env_cfg
  refine ⟨_, hstep, hmove, everyStepKeepsTheInvariants _ _ h.inv hstep, hcfg ▸ h.admitted, hmove.rst.trans h.out, ?_,
    by rw [henv, h.env]; rfl⟩
  obtain ⟨_, _, -, -, hp⟩ | ⟨hwait, -⟩ := hmove.phase_cases
  · rw [hp, h.phase]
  · exact absurd (h.phase ▸ hwait adc ack h.turn) hw

/-- A phase after the three SAMPLE phases keeps the rings and the cursor. -/
theorem SeqReady.later (h : SeqReady s p (.seq adc ack :: rest)) (hp : 3 ≤ p.toNat) (hw : ¬ Waits p adc ack) :
    ∃ t, step s = .next t ∧ SeqReady t (p + 1#3) rest ∧ t.cursor = s.cursor ∧ t.ring = s.ring := by
  obtain ⟨t, hstep, hmove, hready⟩ := h.advances hw
  exact ⟨t, hstep, hready, hmove.keeps_rings (.inl (h.phase ▸ hp))⟩

/-- A SAMPLE phase puts its delivery into the cursor's slot, and the last of them moves the cursor on. -/
theorem SeqReady.sample {v : RawSample} (ch : Channel) (h : SeqReady s ch.phase (.seq (some v) ack :: rest)) :
    ∃ t, step s = .next t ∧ SeqReady t (ch.phase + 1#3) rest ∧
      t.cursor.toNat = (if ch = .highGain then (s.cursor.toNat + 1) % 12 else s.cursor.toNat) ∧
      ∀ d i, t.histRead d i = if d = ch ∧ i = s.cursor.toNat then .ok v else s.histRead d i := by
  obtain ⟨t, hstep, -, hready⟩ := h.advances (by cases ch <;> simp [Waits, Channel.phase])
  have ht : t = ((s.inserted ch v h.inv.cursor).afterInsert ch).advance.dropTurn := by
    have hrun := exec_sample ch h.out h.phase (State.adcPort_seq h.turn) h.inv.cursor
    rw [h.step_eq, hrun] at hstep
    cases hstep
    rfl
  refine ⟨t, hstep, hready, ?_, fun d i => ?_⟩
  · rw [ht, State.dropTurn_cursor, State.advance_cursor, State.afterInsert_cursor, State.inserted_cursor]
  · rw [← State.inserted_histRead s ch v h.inv.cursor]
    apply State.histRead_of_ring_eq
    rw [ht, State.dropTurn_ring, State.advance_ring, State.afterInsert_ring]

end

/-! The cycle of 30_encoding.md R90: the acquisition, then the other five phases. -/

/-- The code that `cycle #a, #b, #c` delivers for a channel. -/
def channelCode (a b c : RawSample) : Channel → RawSample
  | .shunt => a
  | .lowGain => b
  | .highGain => c

section
variable {s : State} {a b c : RawSample} {rest : List Turn}

theorem SeqReady.acquire (h : SeqReady s 0#3 (acquireTurns a b c ++ rest)) :
    ∃ t, runSteps 3 s = .next t ∧ SeqReady t 3#3 rest ∧ t.cursor.toNat = (s.cursor.toNat + 1) % 12 ∧
      ∀ ch i, t.histRead ch i = if i = s.cursor.toNat then .ok (channelCode a b c ch) else s.histRead ch i := by
  obtain ⟨s₁, e₁, h₁, c₁, r₁⟩ := SeqReady.sample .shunt h
  obtain ⟨s₂, e₂, h₂, c₂, r₂⟩ := SeqReady.sample .lowGain h₁
  obtain ⟨s₃, e₃, h₃, c₃, r₃⟩ := SeqReady.sample .highGain h₂
  rw [if_neg (by decide)] at c₁ c₂
  rw [if_pos rfl] at c₃
  refine ⟨s₃, ?_, h₃, by rw [c₃, c₂, c₁], fun ch i => ?_⟩
  · rw [runSteps_of_step e₁, runSteps_of_step e₂, runSteps_of_step e₃]
    rfl
  · rw [r₃, r₂, r₁, c₂, c₁]
    cases ch <;> simp [channelCode]

theorem SeqReady.finishCycle (h : SeqReady s 3#3
      (.seq none false :: .seq none false :: .seq none false :: .seq none false :: .seq none true :: rest)) :
    ∃ t, runSteps 5 s = .next t ∧ SeqReady t 0#3 rest ∧ t.cursor = s.cursor ∧ t.ring = s.ring := by
  obtain ⟨s₁, e₁, h₁, c₁, r₁⟩ := h.later (by decide) (by simp [Waits])
  obtain ⟨s₂, e₂, h₂, c₂, r₂⟩ := h₁.later (by decide) (by simp [Waits])
  obtain ⟨s₃, e₃, h₃, c₃, r₃⟩ := h₂.later (by decide) (by simp [Waits])
  obtain ⟨s₄, e₄, h₄, c₄, r₄⟩ := h₃.later (by decide) (by simp [Waits])
  obtain ⟨s₅, e₅, h₅, c₅, r₅⟩ := h₄.later (by decide) (by simp [Waits])
  refine ⟨s₅, ?_, h₅, by rw [c₅, c₄, c₃, c₂, c₁], by rw [r₅, r₄, r₃, r₂, r₁]⟩
  rw [runSteps_of_step e₁, runSteps_of_step e₂, runSteps_of_step e₃, runSteps_of_step e₄, runSteps_of_step e₅]
  rfl

theorem SeqReady.cycle (h : SeqReady s 0#3 (cycleTurns a b c ++ rest)) :
    ∃ t, runSteps 8 s = .next t ∧ SeqReady t 0#3 rest ∧ t.cursor.toNat = (s.cursor.toNat + 1) % 12 ∧
      ∀ ch i, t.histRead ch i = if i = s.cursor.toNat then .ok (channelCode a b c ch) else s.histRead ch i := by
  rw [cycleTurns, List.append_assoc] at h
  obtain ⟨u, hacq, hu, hcur, hread⟩ := h.acquire
  obtain ⟨t, hfin, ht, hcur', hring⟩ := hu.finishCycle
  refine ⟨t, (runSteps_add hacq 5).trans hfin, ht, by rw [hcur', hcur], fun ch i => ?_⟩
  rw [State.histRead_of_ring_eq (congrFun hring ch), hread]

end

/-- Settles O50: the acquisition fills the slot and moves the cursor, and the other five phases keep both. -/
theorem aCycleRunsTheEightPhases : Obligations.ACycleRunsTheEightPhases := by
  intro s a b c rest hs ha hr hp henv
  obtain ⟨t, hrun, ht, hcur, hread⟩ := SeqReady.cycle ⟨hs, ha, hr, hp, henv⟩
  refine ⟨t, hrun, ht.phase, ht.env, ht.inv, hcur, fun ch i => ?_⟩
  rw [hread]
  cases ch <;> rfl

end Sys2Proof.Safety

/-! CLAIM. The SAMPLE phases of 40_sampler.md: SampleInsert (R100), the three phases and their hold (R101 to R104), what a hold freezes (R101), and who writes the rings (R107) (O10 to O14, O34, O35). -/

namespace Sys2Proof.Machine

open Sys2Proof.Safety

/-! The sequencer's gate (log 10). -/

/-- Every phase's meaning is an operation gated by the phase's own code. -/
theorem exec_eq_phaseOp {i : Instr} {k : PhaseWord} (hk : encode i = .p k) :
    ∃ run, ∀ s, exec i s = phaseOp k run s := by
  cases i with
  | rd => cases hk
  | wr => cases hk
  | _ => cases hk; exact ⟨_, fun _ => rfl⟩

/-- Settles O10: the gate is closed in reset and where PHASE selects another code. -/
theorem aPhaseOutOfItsTurnChangesNothing : Obligations.APhaseOutOfItsTurnChangesNothing := by
  intro i k s hk hout
  obtain ⟨run, hrun⟩ := exec_eq_phaseOp hk
  have hgate : s.enabled k = false := by
    rw [Bool.eq_false_iff, ne_eq, State.enabled_iff]
    rintro ⟨hr, hp⟩
    exact hout.elim (by simp [hr]) (absurd hp)
  rw [hrun, phaseOp_disabled hgate]

/-! SampleInsert on an accumulator that is its ring's sum (R100). -/

section
variable {s : State} {ch : Channel}

/-- The exact sum fits its u14, so SampleInsert uses no free value. -/
theorem State.inserted_freeUses (hs : AccIsSum s ch) (v : RawSample) (h : s.cursor.toNat < 12) :
    (s.inserted ch v h).freeUses = s.freeUses := by
  have hset := ringSum_set (s.ring ch) h v
  have hle := ringSum_le ((s.ring ch).set s.cursor.toNat v h)
  have hsum : (s.acc ch).toNat = ringSum (s.ring ch) := hs
  have hfits : fitsAcc ((s.acc ch).toNat - ((s.ring ch)[s.cursor.toNat]).toNat + v.toNat : Int) = true := by
    rw [fitsAcc_iff]; omega
  rw [State.inserted, State.storeAcc_freeUses, hfits, usesAfter_fits, State.setRing_freeUses]

/-- The accumulator is corrected by exactly the difference: it and the ring's sum move together. -/
theorem State.inserted_acc_same (hs : AccIsSum s ch) (v : RawSample) (h : s.cursor.toNat < 12) :
    (((s.inserted ch v h).acc ch).toNat : Int) =
      ((s.acc ch).toNat : Int) - (((s.ring ch)[s.cursor.toNat]).toNat : Int) + (v.toNat : Int) := by
  have hnew : ((s.inserted ch v h).acc ch).toNat = ringSum ((s.inserted ch v h).ring ch) :=
    State.inserted_accIsSum_same hs v h
  have hold : (s.acc ch).toNat = ringSum (s.ring ch) := hs
  have hset := ringSum_set (s.ring ch) h v
  rw [State.inserted_ring_same] at hnew
  omega

theorem acc_le_of_accIsSum (hs : AccIsSum s ch) : (s.acc ch).toNat ≤ 12276 := hs.trans_le (ringSum_le _)

@[simp] theorem State.inserted_phase (s : State) (ch : Channel) (v : RawSample) (h : s.cursor.toNat < 12) :
    (s.inserted ch v h).phase = s.phase := by simp [State.inserted]

end

/-- Settles O14. -/
theorem sampleInsertKeepsTheRunningSum : Obligations.SampleInsertKeepsTheRunningSum := by
  intro s ch v h hs
  have hsum := State.inserted_accIsSum_same hs v h
  exact ⟨s.inserted ch v h, _, State.sampleInsert_inside s ch v h, State.histRead_ok s ch _ h,
    State.inserted_histRead s ch v h, State.inserted_acc_same hs v h, hsum, acc_le_of_accIsSum hsum,
    State.inserted_cursor s ch v h, fun _ hd => State.inserted_acc_other s ch v h hd⟩

/-! A SAMPLE phase in its turn (R101 to R104): the hold, the fault, and the insert. -/

section
variable {s : State} (ch : Channel) (hr : s.rst = false) (hp : s.phase = ch.phase)
include hr hp

/-- Without a delivery a SAMPLE phase holds (R101, log 11). -/
theorem exec_sample_hold (hn : s.adcPort = none) : exec (decodeWord (.p ch.phase)) s = .next s := by
  have hhold (finish : State → State) : samplePhase ch ch.phase finish s = .next s := by
    simp [samplePhase, phaseOp_enabled hr hp, hn]
  cases ch with
  | shunt => exact hhold _
  | lowGain => exact hhold _
  | highGain => exact hhold _

/-- With a delivery, a CURSOR outside the ring faults (10_state.md R24, log 7). -/
theorem exec_sample_fault {c : RawSample} (hc : s.adcPort = some c) (h : 12 ≤ s.cursor.toNat) :
    exec (decodeWord (.p ch.phase)) s = .fault .faultState := by
  have hfault (finish : State → State) : samplePhase ch ch.phase finish s = .fault .faultState := by
    obtain ⟨hlt, -⟩ | ⟨-, hins⟩ := s.sampleInsert_cases ch c
    · omega
    · simp [samplePhase, phaseOp_enabled hr hp, hc, hins]
  cases ch with
  | shunt => exact hfault _
  | lowGain => exact hfault _
  | highGain => exact hfault _

/-- With a delivery and the cursor in the ring: what a SAMPLE phase does to its own channel, and its next state whole, in which no free value is used. -/
theorem exec_sample_inserts {c : RawSample} (hc : s.adcPort = some c) (h : s.cursor.toNat < 12) (hs : AccIsSum s ch) :
    ∃ t old, exec (decodeWord (.p ch.phase)) s = .next t ∧ s.histRead ch s.cursor.toNat = .ok old ∧
      (∀ i, t.histRead ch i = if i = s.cursor.toNat then .ok c else s.histRead ch i) ∧
      ((t.acc ch).toNat : Int) = ((s.acc ch).toNat : Int) - (old.toNat : Int) + (c.toNat : Int) ∧
      (t.acc ch).toNat ≤ 12276 ∧
      t.cursor.toNat = (if ch = .highGain then (s.cursor.toNat + 1) % 12 else s.cursor.toNat) ∧
      t = { ((s.inserted ch c h).afterInsert ch) with phase := ch.phase + 1#3, freeUses := s.freeUses } := by
  have hacc : ((s.inserted ch c h).afterInsert ch).acc = (s.inserted ch c h).acc := by cases ch <;> rfl
  have hfree : ((s.inserted ch c h).afterInsert ch).freeUses = s.freeUses := by
    rw [← State.inserted_freeUses hs c h]; cases ch <;> rfl
  have hphase : ((s.inserted ch c h).afterInsert ch).phase = ch.phase := by
    rw [← hp, ← State.inserted_phase s ch c h]; cases ch <;> rfl
  refine ⟨((s.inserted ch c h).afterInsert ch).advance, _, ?_, State.histRead_ok s ch _ h, fun i => ?_, ?_, ?_, ?_, ?_⟩
  · rw [← exec_sample ch hr hp hc h, hp]
  · rw [State.histRead_of_ring_eq (s := s.inserted ch c h) (by rw [State.advance_ring, State.afterInsert_ring]),
      State.inserted_histRead]
    simp
  · rw [State.advance_acc, hacc, State.inserted_acc_same hs c h]
  · rw [State.advance_acc, hacc]
    exact acc_le_of_accIsSum (State.inserted_accIsSum_same hs c h)
  · rw [State.advance_cursor, State.afterInsert_cursor, State.inserted_cursor]
  · rw [State.advance, hphase, ← hfree]

end

/-- Settles O11. -/
theorem sampleShInsertsTheDeliveredCode : Obligations.SampleShInsertsTheDeliveredCode := by
  intro s hr hp
  refine ⟨exec_sample_hold .shunt hr hp, fun c => exec_sample_fault .shunt hr hp, fun c hc h hs => ?_⟩
  obtain ⟨t, old, hrun, hold, hread, hacc, hle, -, rfl⟩ := exec_sample_inserts .shunt hr hp hc h hs
  exact ⟨_, old, hrun, hold, hread, hacc, hle, rfl⟩

/-- Settles O12. -/
theorem sampleLgInsertsTheDeliveredCode : Obligations.SampleLgInsertsTheDeliveredCode := by
  intro s hr hp
  refine ⟨exec_sample_hold .lowGain hr hp, fun c => exec_sample_fault .lowGain hr hp, fun c hc h hs => ?_⟩
  obtain ⟨t, old, hrun, hold, hread, hacc, hle, -, rfl⟩ := exec_sample_inserts .lowGain hr hp hc h hs
  exact ⟨_, old, hrun, hold, hread, hacc, hle, rfl⟩

/-- Settles O13: the insert at the old cursor, then the advance modulo 12. -/
theorem sampleHgInsertsAndAdvancesTheCursor : Obligations.SampleHgInsertsAndAdvancesTheCursor := by
  intro s hr hp
  refine ⟨exec_sample_hold .highGain hr hp, fun c => exec_sample_fault .highGain hr hp, fun c hc h hs => ?_⟩
  obtain ⟨t, old, hrun, hold, hread, hacc, hle, hcur, rfl⟩ := exec_sample_inserts .highGain hr hp hc h hs
  exact ⟨_, old, hrun, hold, hread, hacc, hle, hcur, rfl⟩

/-! Who writes the rings (R107). -/

/-- Without a delivery in a SAMPLE phase, the accumulators stay (R107); `Move.keeps_rings` says it of the rings and the cursor. -/
theorem Move.keeps_acc {s t : State} (h : Move s t) (hn : 3 ≤ s.phase.toNat ∨ s.adcPort = none) : t.acc = s.acc := by
  cases h with
  | sampleSh c ack ht hp => simp [hp, State.adcPort_seq ht] at hn
  | sampleLg c ack ht hp => simp [hp, State.adcPort_seq ht] at hn
  | sampleHg c ack ht hp => simp [hp, State.adcPort_seq ht] at hn
  | wr w a d => rw [State.hostWrite_eq]; rfl
  | _ => funext ch; cases ch <;> simp [State.acc]

/-- Settles O35. -/
theorem onlySampleStepsWriteTheRings : Obligations.OnlySampleStepsWriteTheRings := by
  rintro s t ⟨hr, hn⟩ hstep hidle
  have hmove := move_of_step hr hn hstep
  obtain ⟨hcur, hring⟩ := hmove.keeps_rings hidle
  have hacc := hmove.keeps_acc hidle
  exact ⟨congrFun hring .shunt, congrFun hring .lowGain, congrFun hring .highGain,
    congrFun hacc .shunt, congrFun hacc .lowGain, congrFun hacc .highGain, hcur⟩

/-! A hold (R101, 70_reset_and_hazards.md R254). -/

theorem Channel.exists_phase_eq {p : PhaseWord} (h : p.toNat ≤ 2) : ∃ ch : Channel, p = ch.phase := by
  obtain hp | hp | hp | hp | hp | hp | hp | hp := phase_cases p
  · exact ⟨.shunt, hp⟩
  · exact ⟨.lowGain, hp⟩
  · exact ⟨.highGain, hp⟩
  all_goals simp [hp] at h

/-- SEQ's phase leaves the state where its handshake is not answered. -/
theorem exec_of_waits {s : State} {adc : Option RawSample} {ack : Bool} (hr : s.rst = false)
    (ht : s.turn = .seq adc ack) (hw : Waits s.phase adc ack) : exec (decodeWord (.p s.phase)) s = .next s := by
  obtain ⟨hle, rfl⟩ | ⟨hp, rfl⟩ := hw
  · obtain ⟨ch, hp⟩ := Channel.exists_phase_eq hle
    rw [hp]
    exact exec_sample_hold ch hr hp (State.adcPort_seq ht)
  · rw [hp]
    refine (exec_handoff_enabled hr hp).trans ?_
    simp [State.dispAck_seq ht]

/-- A step without a code word does what its press or the pin does, and the turn is then taken. -/
theorem step_of_bareTurn {s u : State} (ha : admitted s.cfg = true) (hr : s.rst = false) (hf : s.fetch = none)
    (hu : s.bareTurn = u) : step s = .next u.dropTurn := by
  rw [step, if_pos ha, State.settle_out s hr, takeTurn, hf, ← hu]

/-- What the environment's turns can change: the latches, the setpoints and the return path (20_memory.md R67 (d)). -/
def EnvFrame (s t : State) : Prop :=
  t = { s with
        pendA := t.pendA, pendB := t.pendB, target := t.target, lvcut := t.lvcut, rdata := t.rdata,
        env := s.env.tail }

theorem step_host_envFrame {s : State} {w : HostWord} (ha : admitted s.cfg = true) (hr : s.rst = false)
    (ht : s.turn = .host w) : ∃ t, step s = .next t ∧ EnvFrame s t := by
  rw [step_of_fetch ha hr (State.fetch_host ht)]
  obtain ⟨a, hw⟩ | ⟨a, d, hw⟩ := decodeHost_cases w <;> rw [hw]
  · exact ⟨_, rfl, rfl⟩
  · refine ⟨(s.hostWrite a d).dropTurn, by simp [exec, execWr, hr], ?_⟩
    rw [EnvFrame, State.hostWrite_eq]; rfl

/-- Every turn of the environment out of reset is answered, in any phase and hold. -/
theorem step_environment {s : State} (ha : admitted s.cfg = true) (hout : OutOfReset s)
    (henv : ∀ adc ack, s.turn ≠ .seq adc ack) : ∃ t, step s = .next t ∧ EnvFrame s t := by
  obtain ⟨hr, hn⟩ := hout
  cases ht : s.turn with
  | seq adc ack => exact absurd ht (henv adc ack)
  | rstAssert => exact absurd ht hn
  | host w => exact step_host_envFrame ha hr ht
  | pressA =>
    have hbare : s.bareTurn = s.setPendA true := by simp [State.bareTurn, State.pressA, ht, hr]
    exact ⟨_, step_of_bareTurn ha hr (by simp [State.fetch, ht]) hbare, rfl⟩
  | pressB =>
    have hbare : s.bareTurn = s.setPendB true := by simp [State.bareTurn, State.pressB, ht, hr]
    exact ⟨_, step_of_bareTurn ha hr (by simp [State.fetch, ht]) hbare, rfl⟩
  | rstRelease =>
    have hbare : s.bareTurn = s := by simp [State.bareTurn, State.releaseReset, ht, ← hr]
    exact ⟨_, step_of_bareTurn ha hr (by simp [State.fetch, ht]) hbare, rfl⟩

/-- Settles O34: SEQ's phase leaves the state, and another turn stays within the environment's frame. -/
theorem aHoldFreezesTheSequencer : Obligations.AHoldFreezesTheSequencer := by
  intro s ha hout hhold
  by_cases hseq : ∃ adc ack, s.turn = .seq adc ack
  · obtain ⟨adc, ack, ht⟩ := hseq
    have hwait := (State.hold_ne_none_iff hout.1 ht).1 hhold
    refine ⟨s.dropTurn, ?_, rfl, fun _ _ _ => rfl⟩
    rw [step_of_fetch ha hout.1 (State.fetch_seq hout.1 ht), exec_of_waits hout.1 ht hwait, thenNext_of_next]
  · have henv : ∀ adc ack, s.turn ≠ .seq adc ack := fun adc ack ht => hseq ⟨adc, ack, ht⟩
    obtain ⟨t, hstep, hframe⟩ := step_environment ha hout henv
    exact ⟨t, hstep, hframe, fun adc ack ht => absurd ht (henv adc ack)⟩

end Sys2Proof.Machine

/-! CLAIM. Over any number of cycles the accumulators hold the last twelve codes (O51; 40_sampler.md R105, R106). -/

namespace Sys2Proof.Safety

open Sys2Proof.Machine

/-! The window of the last twelve codes. -/

/-- A new code enters the window as the code of twelve insertions ago, or an unfilled slot's 0, leaves it. -/
theorem lastTwelve_cons (v : RawSample) (past : List RawSample) :
    lastTwelve (v :: past) + (past.getD 11 0#10).toNat = lastTwelve past + v.toNat := by
  have hwindow : past.take 12 = past.take 11 ++ past[11]?.toList := List.take_add_one
  have hage : (past[11]?.toList.map BitVec.toNat).sum = (past.getD 11 0#10).toNat := by
    rw [List.getD_eq_getElem?_getD]; cases past[11]? <;> simp
  simp only [lastTwelve, List.take_succ_cons, List.map_cons, List.sum_cons, hwindow, List.map_append, List.sum_append,
    hage]
  omega

/-- A channel's code in a cycle's three codes. -/
def codeOf (ch : Channel) (x : RawSample × RawSample × RawSample) : RawSample := channelCode x.1 x.2.1 x.2.2 ch

/-- The rings after the cycles with these codes, newest first: going back from the cursor, each cell is one cycle older (R105), and each ring's sum is its window's (R106). -/
structure Sampled (s : State) (past : List (RawSample × RawSample × RawSample)) : Prop where
  cursor : s.cursor.toNat = past.length % 12
  cell : ∀ ch j, j < 12 → s.histRead ch ((s.cursor.toNat + 11 - j) % 12) = .ok ((past.map (codeOf ch)).getD j 0#10)
  sum : ∀ ch, ringSum (s.ring ch) = lastTwelve (past.map (codeOf ch))

theorem sampled_resetOf (c : Config) (env : List Turn) : Sampled { State.resetOf c with env := env } [] where
  cursor := rfl
  cell ch j _ := by
    rw [State.histRead_ok _ _ _ (Nat.mod_lt _ (by decide))]
    cases ch <;> simp [State.ring, State.resetOf]
  sum ch := by cases ch <;> exact ringSum_zero

/-- Two rings that read alike but for one cell differ by that cell. -/
theorem ring_eq_set_of_histRead {s t : State} {ch : Channel} {i : Nat} (hi : i < 12) {v : RawSample}
    (h : ∀ j, t.histRead ch j = if j = i then .ok v else s.histRead ch j) : t.ring ch = (s.ring ch).set i v hi := by
  ext j hj : 1
  have hcell := h j
  rw [State.histRead_ok _ _ _ hj, State.histRead_ok _ _ _ hj] at hcell
  rw [Vector.getElem_set]
  split at hcell
  case isTrue hji => rw [if_pos hji.symm]; exact Except.ok.inj hcell
  case isFalse hji => rw [if_neg (Ne.symm hji)]; exact Except.ok.inj hcell

/-- One cycle more: its codes replace the oldest ones, which stand at the cursor. -/
theorem Sampled.cycle {s t : State} {past : List (RawSample × RawSample × RawSample)}
    {x : RawSample × RawSample × RawSample} (hs : Sampled s past) (hcur : t.cursor.toNat = (s.cursor.toNat + 1) % 12)
    (hread : ∀ ch i, t.histRead ch i = if i = s.cursor.toNat then .ok (codeOf ch x) else s.histRead ch i) :
    Sampled t (x :: past) := by
  have hpast := hs.cursor
  have hlt : s.cursor.toNat < 12 := by omega
  refine ⟨by rw [List.length_cons]; omega, fun ch j hj => ?_, fun ch => ?_⟩
  · rw [hread, List.map_cons]
    cases j with
    | zero => rw [if_pos (by omega), List.getD_cons_zero]
    | succ j =>
      have hback : (t.cursor.toNat + 11 - (j + 1)) % 12 = (s.cursor.toNat + 11 - j) % 12 := by omega
      rw [if_neg (by omega), hback, hs.cell ch j (by omega), List.getD_cons_succ]
  · have hold := hs.cell ch 11 (by decide)
    rw [Nat.add_sub_cancel, Nat.mod_eq_of_lt hlt, State.histRead_ok _ _ _ hlt, Except.ok.injEq] at hold
    have hset := ringSum_set (s.ring ch) hlt (codeOf ch x)
    have hsum := hs.sum ch
    have hwindow := lastTwelve_cons (codeOf ch x) (past.map (codeOf ch))
    rw [hold] at hset
    rw [ring_eq_set_of_histRead hlt (hread ch), List.map_cons]
    omega

/-- Any number of cycles, from PHASE 0 after the cycles in `past`. -/
theorem SeqReady.cycles {s : State} {codes past : List (RawSample × RawSample × RawSample)}
    (h : SeqReady s 0#3 (codesTurns codes)) (hs : Sampled s past) :
    ∃ t, runSteps (8 * codes.length) s = .next t ∧ SeqReady t 0#3 [] ∧ Sampled t (codes.reverse ++ past) := by
  induction codes generalizing s past with
  | nil => exact ⟨s, rfl, h, hs⟩
  | cons x rest ih =>
    obtain ⟨u, hrun, hu, hcur, hread⟩ := SeqReady.cycle h
    obtain ⟨t, hrest, ht, hsampled⟩ := ih hu (hs.cycle (x := x) hcur hread)
    refine ⟨t, ?_, ht, by simpa using hsampled⟩
    rw [List.length_cons, Nat.mul_succ, Nat.add_comm, runSteps_add hrun, hrest]

/-- Settles O51: the cycles fill the rings with their codes, and each accumulator is its ring's sum. -/
theorem accumulatorsHoldTheLastTwelveCodes : Obligations.AccumulatorsHoldTheLastTwelveCodes := by
  intro c codes ha
  have hinv : BlockInv { State.resetOf c with env := codesTurns codes } :=
    (resetSatisfiesTheInvariants c).of_invView_eq rfl
  obtain ⟨t, hrun, ht, hsampled⟩ := SeqReady.cycles ⟨hinv, ha, rfl, rfl, rfl⟩ (sampled_resetOf c (codesTurns codes))
  rw [List.append_nil] at hsampled
  have hacc (ch : Channel) : (t.acc ch).toNat = lastTwelve (codes.map (codeOf ch)).reverse := by
    have hsum : (t.acc ch).toNat = ringSum (t.ring ch) := (accIsSum_all_iff t).1 ht.inv.sums ch
    rw [hsum, hsampled.sum, List.map_reverse]
  exact ⟨t, hrun, ht.phase, ht.env, by simpa using hsampled.cursor, hacc .shunt, hacc .lowGain, hacc .highGain⟩

end Sys2Proof.Safety

/-! CLAIM. The DERIVE phase of 41_deriver.md: the mean (R120), the measurement (R121 to R123), the sign of its results (R124), and what it depends on (R125) (O15 to O18). -/

namespace Sys2Proof.Machine

open Sys2Proof.Safety

/-! The mean (R120). -/

theorem mean_le_of_le {a : AccWord} (h : a.toNat ≤ 12276) : mean a ≤ 1023 := by rw [mean_eq]; omega

/-- Settles O15: twelve codes of at most 1023 each bound the sum. -/
theorem meanIsATwelfthOfTheSum : Obligations.MeanIsATwelfthOfTheSum :=
  fun s ch => ⟨mean_eq (s.acc ch), fun hs => mean_le_of_le (acc_le_of_accIsSum hs)⟩

/-! An exact result that fits its register is stored as it is, and no free value is used. -/

theorem wordOrFree_of_fits {v : Int} (n : Nat) (h : fitsInt32 v = true) : wordOrFree v n = BitVec.ofInt 32 v := if_pos h

theorem toInt_ofInt_of_fits {v : Int} (h : fitsInt32 v = true) : (BitVec.ofInt 32 v).toInt = v := by
  rw [← wordOrFree_of_fits 0 h, wordOrFree_toInt v 0 h]

section
variable (s : State) {v : Int} (h : fitsInt32 v = true)
include h

theorem State.storeCurrent_of_fits : s.storeCurrent v = { s with current := BitVec.ofInt 32 v } := by
  rw [State.storeCurrent, wordOrFree_of_fits _ h, h, usesAfter_fits]

theorem State.storeVoltage_of_fits : s.storeVoltage v = { s with voltage := BitVec.ofInt 32 v } := by
  rw [State.storeVoltage, wordOrFree_of_fits _ h, h, usesAfter_fits]

theorem State.storePower_of_fits : s.storePower v = { s with power := BitVec.ofInt 32 v } := by
  rw [State.storePower, wordOrFree_of_fits _ h, h, usesAfter_fits]

end

/-! The gain selection (R121, R123). -/

theorem reportedVoltage_of_le {s : State} (h : ((s.accLowGain.toNat / 12 : Nat) : Int) * s.cfg.kLg ≤ 6000) :
    reportedVoltage s = highGainOf s.cfg (mean s.accHighGain) := if_pos h

theorem reportedVoltage_of_not_le {s : State} (h : ¬ ((s.accLowGain.toNat / 12 : Nat) : Int) * s.cfg.kLg ≤ 6000) :
    reportedVoltage s = lowGainOf s.cfg (mean s.accLowGain) := if_neg h

/-- Both branches store the reported voltage, and HG says which path it came from. -/
theorem State.selectVoltage_eq (s : State) : s.selectVoltage =
    (s.storeVoltage (reportedVoltage s)).setHighGain (highGainSelected (lowGainOf s.cfg (mean s.accLowGain))) := by
  unfold State.selectVoltage
  split
  case isTrue hsel => rw [hsel, reportedVoltage_of_le ((highGainSelected_iff _).1 hsel)]
  case isFalse hsel =>
    rw [Bool.eq_false_iff.2 hsel, reportedVoltage_of_not_le (mt (highGainSelected_iff _).2 hsel)]

/-! The measurement of R121 in exact integers. -/

/-- I of R121, from the state's own accumulator. -/
def measuredCurrent (s : State) : Int := currentOf s.cfg (mean s.accShunt)

/-- The state with the exact measurement in its registers; `State.measure_eq` ties it to the model. -/
def State.measured (s : State) : State :=
  { s with
    current := BitVec.ofInt 32 (measuredCurrent s)
    voltage := BitVec.ofInt 32 (reportedVoltage s)
    power := BitVec.ofInt 32 (powerOf (measuredCurrent s) (reportedVoltage s))
    highGain := highGainSelected (lowGainOf s.cfg (mean s.accLowGain)) }

section
variable {s : State} (ha : admitted s.cfg = true) (hacc : AccInRange s)
include ha hacc

theorem measuredCurrent_fits : fitsInt32 (measuredCurrent s) = true := by
  obtain ⟨-, hval, -⟩ := cfgWf_of_admitted ha
  obtain ⟨hsh, -, -⟩ := hacc
  exact (hval _ (mean_le_of_le hsh)).1

theorem reportedVoltage_fits : fitsInt32 (reportedVoltage s) = true := by
  obtain ⟨-, hval, -⟩ := cfgWf_of_admitted ha
  obtain ⟨-, hlg, hhg⟩ := hacc
  by_cases hsel : ((s.accLowGain.toNat / 12 : Nat) : Int) * s.cfg.kLg ≤ 6000
  · rw [reportedVoltage_of_le hsel]
    exact (hval _ (mean_le_of_le hhg)).2.2
  · rw [reportedVoltage_of_not_le hsel]
    exact (hval _ (mean_le_of_le hlg)).2.1

theorem measuredPower_fits : fitsInt32 (powerOf (measuredCurrent s) (reportedVoltage s)) = true := by
  obtain ⟨-, -, hpow⟩ := cfgWf_of_admitted ha
  obtain ⟨hsh, hlg, hhg⟩ := hacc
  by_cases hsel : ((s.accLowGain.toNat / 12 : Nat) : Int) * s.cfg.kLg ≤ 6000
  · rw [reportedVoltage_of_le hsel]
    exact (hpow _ _ (mean_le_of_le hsh) (mean_le_of_le hhg)).2
  · rw [reportedVoltage_of_not_le hsel]
    exact (hpow _ _ (mean_le_of_le hsh) (mean_le_of_le hlg)).1

theorem State.measured_current_toInt : s.measured.current.toInt = measuredCurrent s :=
  toInt_ofInt_of_fits (measuredCurrent_fits ha hacc)

theorem State.measured_voltage_toInt : s.measured.voltage.toInt = reportedVoltage s :=
  toInt_ofInt_of_fits (reportedVoltage_fits ha hacc)

theorem State.measured_power_toInt : s.measured.power.toInt = powerOf (measuredCurrent s) (reportedVoltage s) :=
  toInt_ofInt_of_fits (measuredPower_fits ha hacc)

/-- The four writes of the measurement; reading VOLTAGE back for POWER gives the exact voltage (log 18). -/
theorem State.measure_eq : s.measure = s.measured := by
  have hI := measuredCurrent_fits ha hacc
  have hV := reportedVoltage_fits ha hacc
  have hback : (s.selectVoltage.storeCurrent (measuredCurrent s)).voltage.toInt = reportedVoltage s := by
    rw [State.storeCurrent_voltage, State.selectVoltage_eq, State.setHighGain_voltage, State.storeVoltage_voltage,
      wordOrFree_toInt _ _ hV]
  have hwrites : s.measure = (s.selectVoltage.storeCurrent (measuredCurrent s)).storePower
      (powerOf (measuredCurrent s) (s.selectVoltage.storeCurrent (measuredCurrent s)).voltage.toInt) := rfl
  rw [hwrites, hback, State.storePower_of_fits _ (measuredPower_fits ha hacc), State.storeCurrent_of_fits _ hI,
    State.selectVoltage_eq, State.storeVoltage_of_fits _ hV]
  rfl

/-- DERIVE in its turn: the exact measurement, PHASE 4, and nothing else. -/
theorem exec_derive_measured (hr : s.rst = false) (hp : s.phase = 3#3) :
    exec .derive s = .next { s.measured with phase := 4#3 } := by
  have hphase : s.measured.phase = 3#3 := hp
  rw [exec_derive_enabled hr hp, if_pos ha, State.measure_eq ha hacc, State.advance, hphase]
  rfl

end

/-- Settles O16: `exec_derive_measured` with each register read back as the exact integer it holds. -/
theorem deriveComputesTheMeasurement : Obligations.DeriveComputesTheMeasurement := by
  refine fun s hr hp => ⟨fun ha => ?refused, fun ha hacc => ?measured⟩
  case refused =>
    rw [exec_derive_enabled hr hp, ha]
    rfl
  case measured =>
    have hI := State.measured_current_toInt ha hacc
    have hV := State.measured_voltage_toInt ha hacc
    refine ⟨_, exec_derive_measured ha hacc hr hp, hI, ?_, ?_, rfl⟩
    · split
      case isTrue hsel => exact ⟨(highGainSelected_iff _).2 hsel, hV.trans (reportedVoltage_of_le hsel)⟩
      case isFalse hsel =>
        exact ⟨Bool.eq_false_iff.2 (mt (highGainSelected_iff _).1 hsel), hV.trans (reportedVoltage_of_not_le hsel)⟩
    · rw [hI, hV, ← powerOf_eq, ← State.measured_power_toInt ha hacc]

/-! What the measurement depends on (R125). -/

section
variable {s u : State} (hcfg : u.cfg = s.cfg)
include hcfg

theorem measuredCurrent_congr (hsh : u.accShunt = s.accShunt) : measuredCurrent u = measuredCurrent s := by
  rw [measuredCurrent, measuredCurrent, hcfg, hsh]

theorem reportedVoltage_congr (hlg : u.accLowGain = s.accLowGain) (hhg : u.accHighGain = s.accHighGain) :
    reportedVoltage u = reportedVoltage s := by
  rw [reportedVoltage, reportedVoltage, hcfg, hlg, hhg]

end

/-- Settles O17: each register of the measurement is a function of the accumulators and the configuration. -/
theorem deriveReadsOnlyTheSumsAndTheConfiguration : Obligations.DeriveReadsOnlyTheSumsAndTheConfiguration := by
  intro s u hrs hru hps hpu ha hacc hcfg hsh hlg hhg
  have hau : admitted u.cfg = true := by rwa [hcfg]
  have haccu : AccInRange u := by rwa [AccInRange, hsh, hlg, hhg]
  have hI : measuredCurrent u = measuredCurrent s := measuredCurrent_congr hcfg hsh
  have hV : reportedVoltage u = reportedVoltage s := reportedVoltage_congr hcfg hlg hhg
  refine ⟨_, _, exec_derive_measured ha hacc hrs hps, exec_derive_measured hau haccu hru hpu, ?_, ?_, ?_, ?_, rfl⟩
  · exact congrArg (BitVec.ofInt 32) hI
  · exact congrArg (BitVec.ofInt 32) hV
  · exact congrArg (BitVec.ofInt 32) (congrArg₂ powerOf hI hV)
  · show highGainSelected _ = highGainSelected _
    rw [hcfg, hlg]

/-! The sign of the results (R124). -/

theorem powerOf_nonpos {i v : Int} (hi : 0 ≤ i) (hv : v ≤ 0) : powerOf i v ≤ 0 :=
  (tdiv_le_tdiv (by decide) (mul_nonpos_of_nonneg_of_nonpos hi hv)).trans_eq (tdiv_zero_left _)

/-- Settles O18: the mean and the factors of I are unsigned; a negative voltage makes a power of at most 0. -/
theorem currentIsNeverNegativeAndVoltageMayBe : Obligations.CurrentIsNeverNegativeAndVoltageMayBe := by
  intro s hr hp ha hacc
  have hnonneg : 0 ≤ measuredCurrent s := currentOf_nonneg s.cfg (mean s.accShunt)
  refine ⟨_, exec_derive_measured ha hacc hr hp, ?_, fun hsel hlt => ?_⟩
  · exact hnonneg.trans_eq (State.measured_current_toInt ha hacc).symm
  · have hV := reportedVoltage_of_le hsel
    rw [highGainOf_eq, mean_eq] at hV
    have hneg : reportedVoltage s < 0 := hV.trans_lt (Int.sub_neg_of_lt hlt)
    have hreg := State.measured_voltage_toInt ha hacc
    exact ⟨hreg.trans_lt hneg, hreg.trans hV,
      (State.measured_power_toInt ha hacc).trans_le (powerOf_nonpos hnonneg hneg.le)⟩

end Sys2Proof.Machine

/-! CLAIM. The REGULATE phase of 42_regulator.md: the trip, the step and the hold (R140, R141), the clamps and who moves the duty (R144), and the undervoltage cycle (60_exceptions.md R223) (O22, O23, O42, O52). -/

namespace Sys2Proof.Machine

/-! The regulator (R140, R141). -/

/-- The low-voltage trip, whole (R141); `State.regulateDuty_eq` ties it to the model. -/
def State.tripped (s : State) : State := { s with duty := 1025#16, mode := .lvc, lastOk := true }

/-- The trip's ChangeMode request is legal in ON, and writes the sentinel once more. -/
theorem State.changeMode_trip {s : State} (hm : s.mode = .on) :
    ((s.setDuty Config.dutyOff).changeMode .lvc).1 = s.tripped := by
  have hlegal : legalTransition (s.setDuty Config.dutyOff).mode .lvc = true := by
    rw [State.setDuty_mode, hm]; rfl
  rw [State.changeMode_legal hlegal, State.setDuty_mode, if_pos hm]
  rfl

/-- R140 with its comparisons in exact integers. -/
theorem State.regulateDuty_eq (s : State) : s.regulateDuty =
    if s.mode = .on then
      if s.voltage.toInt < s.lvcut.toInt then s.tripped
      else if s.current.toInt < s.target.toInt ∧ 300 < s.duty.toNat then s.setDuty (s.duty - 1#16)
      else if s.target.toInt < s.current.toInt ∧ s.duty.toNat < 1000 then s.setDuty (s.duty + 1#16)
      else s
    else s := by
  simp only [State.regulateDuty, undervoltage_iff, stepsDown_iff, stepsUp_iff]
  by_cases hm : s.mode = .on
  · rw [if_pos hm, if_pos hm, State.changeMode_trip hm]
  · rw [if_neg hm, if_neg hm]

/-- Settles O22: each branch of `State.regulateDuty_eq` leaves PHASE at 6, which the advance makes 7. -/
theorem regulateTripsOrSteps : Obligations.RegulateTripsOrSteps := by
  intro s hr hp
  have hadvance (u : State) (hu : u.phase = s.phase) : u.advance = { u with phase := 7#3 } := by
    rw [State.advance, hu, hp]; rfl
  rw [exec_regulate_enabled hr hp, hadvance _ s.regulateDuty_phase, State.regulateDuty_eq]
  split_ifs <;> rfl

/-- What the regulator can do to the duty: hold it, trip, or in ON move it by one within the clamps. -/
theorem State.regulateDuty_cases (s : State) :
    s.regulateDuty = s ∨
    (s.mode = .on ∧ s.regulateDuty = s.tripped) ∨
    (s.mode = .on ∧ s.regulateDuty.mode = .on ∧ 300 < s.duty.toNat ∧ s.regulateDuty.duty.toNat + 1 = s.duty.toNat) ∨
    (s.mode = .on ∧ s.regulateDuty.mode = .on ∧ s.duty.toNat < 1000 ∧
      s.regulateDuty.duty.toNat = s.duty.toNat + 1) := by
  rw [State.regulateDuty_eq]
  split
  case isFalse => exact .inl rfl
  case isTrue hm =>
    split
    case isTrue => exact .inr (.inl ⟨hm, rfl⟩)
    case isFalse =>
      split
      case isTrue hdown =>
        have hstep : (s.duty - 1#16).toNat + 1 = s.duty.toNat := by have := hdown.2; bv_omega
        exact .inr (.inr (.inl ⟨hm, hm, hdown.2, hstep⟩))
      case isFalse =>
        split
        case isTrue hup =>
          have hstep : (s.duty + 1#16).toNat = s.duty.toNat + 1 := by have := hup.2; bv_omega
          exact .inr (.inr (.inr ⟨hm, hm, hup.2, hstep⟩))
        case isFalse => exact .inl rfl

/-- Settles O23: the step down starts above 300 and the step up below 1000; only the trip leaves 300..1000. -/
theorem steppingStaysWithinTheClamps : Obligations.SteppingStaysWithinTheClamps := by
  intro s hr hp
  refine ⟨_, exec_regulate_enabled hr hp, ?_⟩
  rw [State.advance_duty, State.advance_mode]
  obtain h | ⟨hm, h⟩ | ⟨-, -, hlo, h⟩ | ⟨-, -, hhi, h⟩ := s.regulateDuty_cases
  · rw [h]
    exact ⟨fun hlo hhi => .inl ⟨hlo, hhi⟩, fun _ => .inl rfl, fun _ _ _ => .inl rfl⟩
  · have hleft : s.tripped.mode ≠ s.mode := by rw [hm]; exact nofun
    rw [h]
    exact ⟨fun _ _ => .inr ⟨rfl, hm, rfl⟩, fun hsame => absurd hsame hleft, fun _ _ hsame => absurd hsame hleft⟩
  · exact ⟨fun _ _ => .inl ⟨by omega, by omega⟩, fun _ => .inr (.inl h), fun _ _ _ => .inr h⟩
  · exact ⟨fun _ _ => .inl ⟨by omega, by omega⟩, fun _ => .inr (.inr h), fun _ _ _ => by omega⟩

/-! What the buttons do to the duty and to LAST_OK (44_mode.md R171, R174). -/

/-- Button A forces the sentinel where it leaves ON. -/
theorem State.buttonA_duty (s : State) : s.buttonA.duty =
    if s.pendA = true ∧ s.mode = .on then 1025#16 else s.duty := by
  unfold State.buttonA
  by_cases hp : s.pendA = true
  · cases hm : s.mode <;> simp [State.changeMode, legalTransition, hp, hm]
  · simp [hp]

/-- Button B never leaves ON, so it never writes the duty. -/
theorem State.buttonB_duty (s : State) : s.buttonB.duty = s.duty := by
  unfold State.buttonB
  split
  case isFalse => rfl
  case isTrue =>
    cases hm : s.mode <;> simp [State.changeMode, legalTransition, hm]

/-- Button A's request is legal in OFF and ON and rejected elsewhere. -/
theorem State.buttonA_lastOk (s : State) : s.buttonA.lastOk =
    if s.pendA = true then decide (s.mode = .off ∨ s.mode = .on) else s.lastOk := by
  unfold State.buttonA
  by_cases hp : s.pendA = true
  · cases hm : s.mode <;> simp [State.changeMode, legalTransition, hp, hm]
  · simp [hp]

/-- Button B's one request, the acknowledge of LVC, is legal. -/
theorem State.buttonB_lastOk (s : State) : s.buttonB.lastOk =
    if s.pendB = true ∧ s.mode = .lvc then true else s.lastOk := by
  unfold State.buttonB
  by_cases hp : s.pendB = true
  · cases hm : s.mode <;> simp [State.changeMode, legalTransition, hp, hm]
  · simp [hp]

/-! The two buttons together, A first (44_mode.md R174). -/

theorem State.buttonA_mode_eq_lvc (s : State) : s.buttonA.mode = .lvc ↔ s.mode = .lvc := by
  rw [State.buttonA_mode]
  split_ifs <;> simp_all

theorem State.buttons_mode (s : State) : s.buttonA.buttonB.mode =
    if s.pendB = true ∧ s.mode = .lvc then .off
    else if s.pendA = true ∧ s.mode = .off then .on
    else if s.pendA = true ∧ s.mode = .on then .off else s.mode := by
  simp only [State.buttonB_mode, State.buttonA_pendB, State.buttonA_mode_eq_lvc]
  rw [State.buttonA_mode]

theorem State.buttons_duty (s : State) : s.buttonA.buttonB.duty =
    if s.pendA = true ∧ s.mode = .on then 1025#16 else s.duty := by
  rw [State.buttonB_duty, State.buttonA_duty]

theorem State.buttons_lastOk (s : State) : s.buttonA.buttonB.lastOk =
    if s.pendB = true ∧ s.mode = .lvc then true
    else if s.pendA = true then decide (s.mode = .off ∨ s.mode = .on) else s.lastOk := by
  simp only [State.buttonB_lastOk, State.buttonA_pendB, State.buttonA_mode_eq_lvc, State.buttonA_lastOk]

/-! Who moves the duty (R144 (d)). -/

@[simp] theorem State.hostWrite_duty (s : State) (a : BitVec 4) (d : Word) : (s.hostWrite a d).duty = s.duty := by
  rw [State.hostWrite_eq]

/-- Only the MODE and the REGULATE phase can write the duty. -/
theorem Move.duty_cases {s t : State} (h : Move s t) :
    t.duty = s.duty ∨ t = s.buttonA.buttonB.advance.dropTurn ∨
    (s.phase = 6#3 ∧ t = s.regulateDuty.advance.dropTurn) := by
  cases h with
  | mode => exact .inr (.inl rfl)
  | regulate adc ack ht hp => exact .inr (.inr ⟨hp, rfl⟩)
  | _ => exact .inl (by simp)

/-- The buttons change the duty only where A leaves ON, and B does not come back to it. -/
theorem State.buttons_duty_ne {s : State} (hne : s.buttonA.buttonB.duty ≠ s.duty) :
    s.buttonA.buttonB.duty = 1025#16 ∧ s.mode = .on ∧ s.buttonA.buttonB.mode ≠ .on := by
  rw [State.buttons_duty] at hne ⊢
  split
  case isFalse hkeep => exact absurd (if_neg hkeep) hne
  case isTrue hleave =>
    obtain ⟨hA, hm⟩ := hleave
    have hoff : s.buttonA.buttonB.mode = .off := by simp [State.buttons_mode, hA, hm]
    exact ⟨rfl, hm, by rw [hoff]; decide⟩

/-- Settles O42: the duty moves in MODE where A leaves ON, and in REGULATE by the trip or by one. -/
theorem dutyMovesByOneOrIsForcedOff : Obligations.DutyMovesByOneOrIsForcedOff := by
  rintro s t ⟨hr, hn⟩ hstep hne
  obtain hsame | rfl | ⟨hp, rfl⟩ := (move_of_step hr hn hstep).duty_cases
  · exact absurd hsame hne
  · exact .inl (State.buttons_duty_ne hne)
  simp only [State.dropTurn_duty, State.advance_duty, State.dropTurn_mode, State.advance_mode] at hne ⊢
  obtain h | ⟨hm, h⟩ | ⟨hm, hm', -, h⟩ | ⟨hm, hm', -, h⟩ := s.regulateDuty_cases
  · exact absurd (congrArg State.duty h) hne
  · rw [h]
    exact .inl ⟨rfl, hm, nofun⟩
  · exact .inr ⟨hp, hm, hm', .inl h⟩
  · exact .inr ⟨hp, hm, hm', .inr h⟩

end Sys2Proof.Machine

namespace Sys2Proof.Safety

open Sys2Proof.Machine

/-! The steps DERIVE to REGULATE of a cycle. -/

/-- SEQ is about to run phase `p` out of reset and these turns are to come; `SeqReady` without the invariants. -/
structure SeqAt (s : State) (p : PhaseWord) (env : List Turn) : Prop where
  admitted : admitted s.cfg = true
  out : s.rst = false
  phase : s.phase = p
  env : s.env = env

/-- SEQ's turn with its handshake answered runs its phase and is at the next one. -/
theorem SeqAt.runs {s u : State} {p : PhaseWord} {adc : Option RawSample} {ack : Bool} {rest : List Turn}
    (h : SeqAt s p (.seq adc ack :: rest)) (hw : ¬ Waits p adc ack)
    (he : exec (decodeWord (.p p)) s = .next u) : step s = .next u.dropTurn ∧ SeqAt u.dropTurn (p + 1#3) rest := by
  obtain ⟨ha, hr, rfl, henv⟩ := h
  have hturn : s.turn = .seq adc ack := by rw [State.turn, henv]
  have hmove : Move s u.dropTurn := move_of_seq hr hturn he
  obtain ⟨henv', hcfg⟩ := hmove.env_cfg
  refine ⟨by rw [step_of_fetch ha hr (State.fetch_seq hr hturn), he, thenNext_of_next], hcfg ▸ ha,
    hmove.rst.trans hr, ?_, by rw [henv', henv]; rfl⟩
  obtain ⟨-, -, -, -, hp⟩ | ⟨hwait, -⟩ := hmove.phase_cases
  · exact hp
  · exact absurd (hwait adc ack hturn) hw

/-- DERIVE, PROTECT and MODE hand REGULATE the voltage just reported, and the mode, duty and LAST_OK that the buttons leave. -/
theorem SeqAt.deriveToRegulate {s : State} {rest : List Turn} (hacc : AccInRange s)
    (h : SeqAt s 3#3 (quietTurn :: quietTurn :: quietTurn :: quietTurn :: rest)) :
    ∃ u : State, runSteps 4 s = .next u.regulateDuty.advance.dropTurn ∧ u.phase = 6#3 ∧
      u.voltage.toInt = reportedVoltage s ∧ u.lvcut = s.lvcut ∧ u.mode = s.buttonA.buttonB.mode ∧
      u.duty = s.buttonA.buttonB.duty ∧ u.lastOk = s.buttonA.buttonB.lastOk := by
  obtain ⟨e₁, h₁⟩ := h.runs (by simp [Waits]) ((exec_derive_enabled h.out h.phase).trans (if_pos h.admitted))
  obtain ⟨e₂, h₂⟩ := h₁.runs (by simp [Waits]) (exec_protect_enabled h₁.out h₁.phase)
  obtain ⟨e₃, h₃⟩ := h₂.runs (by simp [Waits]) (exec_mode_enabled h₂.out h₂.phase)
  obtain ⟨e₄, -⟩ := h₃.runs (by simp [Waits]) (exec_regulate_enabled h₃.out h₃.phase)
  refine ⟨_, ?_, h₃.phase, ?_, ?_, ?_, ?_, ?_⟩
  · rw [runSteps_of_step e₁, runSteps_of_step e₂, runSteps_of_step e₃, runSteps_of_step e₄]
    rfl
  · rw [← State.measured_voltage_toInt h.admitted hacc, ← State.measure_eq h.admitted hacc]
    simp
  · simp
  · simp [State.buttons_mode]
  · simp [State.buttons_duty]
  · simp [State.buttons_lastOk]

/-- The undervoltage cycle by the mode the buttons leave: ON trips, and every other mode stays as it is. -/
theorem SeqAt.undervoltage {s : State} {rest : List Turn} (hacc : AccInRange s)
    (h : SeqAt s 3#3 (quietTurn :: quietTurn :: quietTurn :: quietTurn :: rest))
    (hlow : reportedVoltage s < s.lvcut.toInt) :
    ∃ t, runSteps 4 s = .next t ∧ t.phase = 7#3 ∧ t.loadEn = false ∧
      (s.buttonA.buttonB.mode = .on → t.mode = .lvc ∧ t.duty = 1025#16 ∧ t.lastOk = true) ∧
      (s.buttonA.buttonB.mode ≠ .on → t.mode = s.buttonA.buttonB.mode ∧ t.duty = s.buttonA.buttonB.duty ∧
        t.lastOk = s.buttonA.buttonB.lastOk) := by
  obtain ⟨u, hrun, hp, hv, hl, hm, hd, hok⟩ := h.deriveToRegulate hacc
  have huv : u.voltage.toInt < u.lvcut.toInt := by rwa [hv, hl]
  have hreg : u.regulateDuty = if u.mode = .on then u.tripped else u := by
    rw [State.regulateDuty_eq, if_pos huv]
  have hphase : u.regulateDuty.advance.dropTurn.phase = 7#3 := by
    rw [State.dropTurn_phase, State.advance_phase, State.regulateDuty_phase, hp]; rfl
  refine ⟨_, hrun, hphase, ?_⟩
  rw [← hm, ← hd, ← hok]
  by_cases hon : u.mode = .on
  · rw [hreg, if_pos hon]
    exact ⟨rfl, fun _ => ⟨rfl, rfl, rfl⟩, fun hne => absurd hon hne⟩
  · rw [hreg, if_neg hon]
    exact ⟨decide_eq_false hon, fun h => absurd h hon, fun _ => ⟨rfl, rfl, rfl⟩⟩

/-- Settles O52: the buttons' mode, duty and LAST_OK in each clause, and the trip where they leave ON. -/
theorem undervoltageEndsTheCycleOff : Obligations.UndervoltageEndsTheCycleOff := by
  intro s rest ha hacc hr hp henv hlow
  obtain ⟨t, hrun, hphase, hload, htrip, hkeep⟩ := SeqAt.undervoltage hacc ⟨ha, hr, hp, henv⟩ hlow
  refine ⟨?trips, ?leavesOn, ?staysOff, ?inLvc⟩
  case trips =>
    intro hcase
    have hon : s.buttonA.buttonB.mode = .on := by
      obtain ⟨hm, hA⟩ | ⟨hm, hA⟩ := hcase <;> simp [State.buttons_mode, hm, hA]
    obtain ⟨hmode, hduty, hok⟩ := htrip hon
    exact ⟨t, hrun, hphase, hmode, hduty, hok, hload⟩
  case leavesOn =>
    rintro ⟨hm, hA⟩
    have hoff : s.buttonA.buttonB.mode = .off := by simp [State.buttons_mode, hm, hA]
    obtain ⟨hmode, hduty, hok⟩ := hkeep (by simp [hoff])
    rw [State.buttons_duty, if_pos ⟨hA, hm⟩] at hduty
    rw [State.buttons_lastOk] at hok
    exact ⟨t, hrun, hphase, hmode.trans hoff, hduty, by simp [hok, hm, hA], hload⟩
  case staysOff =>
    rintro ⟨hm, hA⟩
    have hoff : s.buttonA.buttonB.mode = .off := by simp [State.buttons_mode, hm, hA]
    obtain ⟨hmode, hduty, hok⟩ := hkeep (by simp [hoff])
    rw [State.buttons_duty, if_neg (by simp [hm])] at hduty
    rw [State.buttons_lastOk] at hok
    exact ⟨t, hrun, hphase, hmode.trans hoff, hduty, by simp [hok, hm, hA], hload,
      fun hs => hduty.trans (hs.offDuty (.inl hm))⟩
  case inLvc =>
    intro hm
    have hleft : s.buttonA.buttonB.mode = if s.pendB = true then .off else .lvc := by
      simp [State.buttons_mode, hm]
    obtain ⟨hmode, hduty, hok⟩ := hkeep (by rw [hleft]; split <;> decide)
    rw [State.buttons_duty, if_neg (by simp [hm])] at hduty
    rw [State.buttons_lastOk] at hok
    exact ⟨t, hrun, hphase, hmode.trans hleft, hduty, by simp [hok, hm], hload,
      fun hs => hduty.trans (hs.offDuty (.inr hm))⟩

end Sys2Proof.Safety

/-! CLAIM. The PROTECT phase of 43_protection.md: the fan comparator (R160) (O19). -/

namespace Sys2Proof.Machine

/-- Settles O19: the enabled `protect` sets FAN by the comparator, whose threshold is 2500, and advances PHASE from 4. -/
theorem protectSetsTheFanAboveTheThreshold : Obligations.ProtectSetsTheFanAboveTheThreshold := by
  intro s hr hp
  have hfan : fanTrip s.power = decide (2500 < s.power.toInt) := Bool.eq_iff_iff.2 (by simp [fanTrip_iff])
  calc exec .protect s
      = .next (s.setFan (fanTrip s.power)).advance := exec_protect_enabled hr hp
    _ = .next { s with fan := fanTrip s.power, phase := s.phase + 1#3 } := rfl
    _ = .next { s with fan := decide (2500 < s.power.toInt), phase := 5#3 } := by rw [hfan, hp]; rfl

end Sys2Proof.Machine

/-! CLAIM. The mode machine of 44_mode.md: the transition table (R170, R171), who leaves each mode (R172, R175, R177), the presses (R173) and the MODE phase (R174) (O7, O20, O21, O38 to O41). -/

namespace Sys2Proof.Machine

open Sys2Proof.Safety

/-! ChangeMode (R170, R171). -/

theorem legalTransition_iff_mem (m n : Mode) : legalTransition m n = true ↔
    (m, n) ∈ [(Mode.off, Mode.on), (.on, .off), (.on, .lvc), (.lvc, .off)] := by
  simp [legalTransition_iff]

/-- Settles O20. -/
theorem changeModeFollowsTheTransitionTable : Obligations.ChangeModeFollowsTheTransitionTable := by
  refine fun s new => ⟨fun hmem => ?legal, fun hnot => ?rejected⟩
  case legal => exact State.changeMode_legal ((legalTransition_iff_mem _ _).2 hmem)
  case rejected => exact State.changeMode_rejected (Bool.eq_false_iff.2 (mt (legalTransition_iff_mem _ _).1 hnot))

/-- ChangeMode writes DUTY, MODE and LAST_OK at most. -/
theorem State.changeMode_eq (s : State) (new : Mode) : (s.changeMode new).1 =
    { s with duty := (s.changeMode new).1.duty, mode := (s.changeMode new).1.mode,
             lastOk := (s.changeMode new).1.lastOk } := by
  cases hl : legalTransition s.mode new with
  | true => rw [State.changeMode_legal hl]
  | false => rw [State.changeMode_rejected hl]

/-! The MODE phase (R174). -/

/-- Button A writes its latch and, through ChangeMode, DUTY, MODE and LAST_OK. -/
theorem State.buttonA_eq (s : State) : s.buttonA =
    { s with pendA := s.buttonA.pendA, duty := s.buttonA.duty, mode := s.buttonA.mode,
             lastOk := s.buttonA.lastOk } := by
  unfold State.buttonA
  split
  case isFalse => rfl
  case isTrue =>
    split
    case isTrue => rw [State.changeMode_eq]; rfl
    case isFalse => rw [State.changeMode_eq]; rfl

/-- Button B writes its latch and, by the mode, the display or, through ChangeMode, DUTY, MODE and LAST_OK. -/
theorem State.buttonB_eq (s : State) : s.buttonB =
    { s with pendB := s.buttonB.pendB, duty := s.buttonB.duty, mode := s.buttonB.mode,
             dispMode := s.buttonB.dispMode, lastOk := s.buttonB.lastOk } := by
  unfold State.buttonB
  split
  case isFalse => rfl
  case isTrue =>
    cases s.mode with
    | off => rfl
    | set => rfl
    | on => rfl
    | lvc => dsimp only; rw [State.changeMode_eq]; rfl

theorem dispCode_nextDisp (d : DispMode) : dispCode (nextDisp d) = dispCode d + 1#2 := by cases d <;> rfl

/-- A leaves OFF where it finds OFF without a press of its own, or ON with one. -/
theorem State.buttonA_mode_eq_off (s : State) : s.buttonA.mode = .off ↔
    (s.mode = .off ∧ s.pendA = false) ∨ (s.mode = .on ∧ s.pendA = true) := by
  rw [State.buttonA_mode]
  cases s.mode <;> cases s.pendA <;> simp

theorem State.buttons_dispMode (s : State) : s.buttonA.buttonB.dispMode =
    if s.pendB = true ∧ ((s.mode = .off ∧ s.pendA = false) ∨ (s.mode = .on ∧ s.pendA = true))
    then nextDisp s.dispMode else s.dispMode := by
  simp only [State.buttonB_dispMode, State.buttonA_pendB, State.buttonA_mode_eq_off, State.buttonA_dispMode]

/-- `State.buttons_mode` in R174's order: B's clause is about a mode that A leaves alone. -/
theorem State.buttons_mode_in_order (s : State) : s.buttonA.buttonB.mode =
    if s.pendA = true ∧ s.mode = .off then .on
    else if s.pendA = true ∧ s.mode = .on then .off
    else if s.pendB = true ∧ s.mode = .lvc then .off else s.mode := by
  rw [State.buttons_mode]
  cases s.mode <;> simp

/-- Settles O21: each element from the lemma about the two buttons together, and the frame from the two buttons' own. -/
theorem modePhaseConsumesTheButtons : Obligations.ModePhaseConsumesTheButtons := by
  intro s hr hp
  refine ⟨_, exec_mode_enabled hr hp, ?pendA, ?pendB, s.buttons_mode_in_order, s.buttons_duty, ?display,
    s.buttons_lastOk, ?frame⟩
  case pendA => rw [State.advance_pendA, State.buttonB_pendA, State.buttonA_pendA]
  case pendB => rw [State.advance_pendB, State.buttonB_pendB]
  case display =>
    rw [State.advance_dispMode, State.buttons_dispMode, apply_ite dispCode, dispCode_nextDisp]
  case frame =>
    have hphase : s.buttonA.buttonB.phase + 1#3 = 6#3 := by
      rw [State.buttonB_phase, State.buttonA_phase, hp]; rfl
    rw [State.advance, hphase, State.buttonB_eq, State.buttonA_eq]

/-! Who changes MODE (R170, R172, R175, R177). -/

@[simp] theorem State.hostWrite_mode (s : State) (a : BitVec 4) (d : Word) : (s.hostWrite a d).mode = s.mode := by
  rw [State.hostWrite_eq]

theorem State.loadEn_eq_false {s : State} (h : s.mode ≠ .on) : s.loadEn = false := decide_eq_false h

/-- What a step out of reset can do to MODE, with the duty beside it: keep it, or make one of the four transitions of R170 in its own phase. `Move.modeMove` ties it to the model. -/
inductive ModeMove (s t : State) : Prop where
  /-- MODE stays; only in ON may the duty move. -/
  | keep (hmode : t.mode = s.mode) (hduty : s.mode = .on ∨ t.duty = s.duty)
  /-- Button A in OFF. -/
  | turnOn (hp : s.phase = 5#3) (hs : s.mode = .off) (ht : t.mode = .on)
  /-- Button A in ON. -/
  | turnOff (hp : s.phase = 5#3) (hs : s.mode = .on) (ht : t.mode = .off) (hduty : t.duty = 1025#16)
  /-- Button B in LVC. -/
  | acknowledge (hp : s.phase = 5#3) (hB : s.pendB = true) (hs : s.mode = .lvc) (ht : t.mode = .off)
      (hduty : t.duty = s.duty)
  /-- The low-voltage trip of the regulator. -/
  | trip (hp : s.phase = 6#3) (hs : s.mode = .on) (ht : t.mode = .lvc) (hduty : t.duty = 1025#16)

/-- The MODE phase, by the mode it finds and the latch that mode answers to. -/
theorem State.modeMove_buttons {s : State} (hp : s.phase = 5#3) :
    ModeMove s s.buttonA.buttonB.advance.dropTurn := by
  cases hm : s.mode with
  | set => exact .keep (by simp [State.buttons_mode, hm]) (.inr (by simp [State.buttons_duty, hm]))
  | off =>
    by_cases hA : s.pendA = true
    · exact .turnOn hp hm (by simp [State.buttons_mode, hm, hA])
    · exact .keep (by simp [State.buttons_mode, hm, hA]) (.inr (by simp [State.buttons_duty, hm]))
  | on =>
    by_cases hA : s.pendA = true
    · exact .turnOff hp hm (by simp [State.buttons_mode, hm, hA]) (by simp [State.buttons_duty, hm, hA])
    · exact .keep (by simp [State.buttons_mode, hm, hA]) (.inl hm)
  | lvc =>
    by_cases hB : s.pendB = true
    · exact .acknowledge hp hB hm (by simp [State.buttons_mode, hm, hB]) (by simp [State.buttons_duty, hm])
    · exact .keep (by simp [State.buttons_mode, hm, hB]) (.inr (by simp [State.buttons_duty, hm]))

/-- The REGULATE phase: it trips out of ON, or keeps the mode. -/
theorem State.modeMove_regulate {s : State} (hp : s.phase = 6#3) : ModeMove s s.regulateDuty.advance.dropTurn := by
  obtain h | ⟨hm, h⟩ | ⟨hm, hm', -, -⟩ | ⟨hm, hm', -, -⟩ := s.regulateDuty_cases
  · rw [h]; exact .keep rfl (.inr rfl)
  · rw [h]; exact .trip hp hm rfl rfl
  · exact .keep (hm'.trans hm.symm) (.inl hm)
  · exact .keep (hm'.trans hm.symm) (.inl hm)

theorem Move.modeMove {s t : State} (h : Move s t) : ModeMove s t := by
  cases h with
  | mode adc ack ht hp => exact State.modeMove_buttons hp
  | regulate adc ack ht hp => exact State.modeMove_regulate hp
  | _ => exact .keep (by simp) (.inr (by simp))

/-- Settles O38: each transition of `ModeMove` stands in the table with its phase. -/
theorem everyModeChangeIsInTheTable : Obligations.EveryModeChangeIsInTheTable := by
  rintro s t ⟨hr, hn⟩ hstep hne
  cases (move_of_step hr hn hstep).modeMove with
  | keep hmode => exact absurd hmode hne
  | turnOn hp hs ht => exact .inl ⟨by simp [hs, ht], hp⟩
  | turnOff hp hs ht => exact .inl ⟨by simp [hs, ht], hp⟩
  | acknowledge hp _ hs ht => exact .inl ⟨by simp [hs, ht], hp⟩
  | trip hp hs ht => exact .inr ⟨by rw [hs, ht], hp⟩

/-- Settles O39: no transition starts in SET, and outside ON the duty stays with the mode. -/
theorem setModeIsAbsorbing : Obligations.SetModeIsAbsorbing := by
  rintro s t ⟨hr, hn⟩ hset hstep
  cases (move_of_step hr hn hstep).modeMove with
  | keep hmode hduty =>
    have ht : t.mode = .set := hmode.trans hset
    exact ⟨ht, hduty.resolve_left (by simp [hset]), State.loadEn_eq_false (by simp [ht])⟩
  | turnOn _ hs => simp [hset] at hs
  | turnOff _ hs => simp [hset] at hs
  | acknowledge _ _ hs => simp [hset] at hs
  | trip _ hs => simp [hset] at hs

/-- Settles O40: of the four transitions, only the acknowledge starts in LVC. -/
theorem onlyTheAcknowledgeLeavesLvc : Obligations.OnlyTheAcknowledgeLeavesLvc := by
  rintro s t ⟨hr, hn⟩ hlvc hstep
  cases (move_of_step hr hn hstep).modeMove with
  | keep hmode hduty => exact .inl ⟨hmode.trans hlvc, hduty.resolve_left (by simp [hlvc])⟩
  | acknowledge hp hB _ ht hduty => exact .inr ⟨ht, hduty, hp, hB⟩
  | turnOn _ hs => simp [hlvc] at hs
  | turnOff _ hs => simp [hlvc] at hs
  | trip _ hs => simp [hlvc] at hs

/-- Out of reset, ON is left by button A or by the trip, and both force the sentinel. -/
theorem ModeMove.duty_of_leaves_on {s t : State} (h : ModeMove s t) (hs : s.mode = .on) (ht : t.mode ≠ .on) :
    t.duty = 1025#16 := by
  cases h with
  | keep hmode => exact absurd (hmode.trans hs) ht
  | turnOn _ _ hon => exact absurd hon ht
  | turnOff _ _ _ hduty => exact hduty
  | acknowledge _ _ hlvc => simp [hs] at hlvc
  | trip _ _ _ hduty => exact hduty

/-- Settles O41: the sentinel comes from the transition or, in reset, from the reset values. -/
theorem leavingOnTurnsTheLoadOff : Obligations.LeavingOnTurnsTheLoadOff := by
  intro s t hon hstep hleft
  refine ⟨?_, State.loadEn_eq_false hleft⟩
  obtain hmove | rfl | rfl := step_cases hstep
  · exact hmove.modeMove.duty_of_leaves_on hon hleft
  · rfl
  · rfl

/-! The presses (R173). -/

section
variable {s : State} (ha : admitted s.cfg = true) (hr : s.rst = false)
include ha hr

theorem step_pressA (ht : s.turn = .pressA) : step s = .next { s with pendA := true, env := s.env.tail } := by
  have hbare : s.bareTurn = s.setPendA true := by simp [State.bareTurn, State.pressA, ht, hr]
  exact step_of_bareTurn ha hr (by simp [State.fetch, ht]) hbare

theorem step_pressB (ht : s.turn = .pressB) : step s = .next { s with pendB := true, env := s.env.tail } := by
  have hbare : s.bareTurn = s.setPendB true := by simp [State.bareTurn, State.pressB, ht, hr]
  exact step_of_bareTurn ha hr (by simp [State.fetch, ht]) hbare

end

theorem runSteps_two {s u t : State} (hfirst : step s = .next u) (hsecond : step u = .next t) :
    runSteps 2 s = .next t := by
  rw [runSteps_of_step hfirst, runSteps_of_step hsecond, runSteps]

/-- Settles O7: a press runs no code word, and a second one writes the same latch once more. -/
theorem aPressSetsItsLatch : Obligations.APressSetsItsLatch := by
  refine fun s ha hr => ⟨step_pressA ha hr, step_pressB ha hr, fun rest henv => ?twiceA, fun rest henv => ?twiceB⟩
  case twiceA =>
    have hfirst := step_pressA ha hr (by rw [State.turn, henv])
    rw [henv] at hfirst
    exact runSteps_two hfirst (step_pressA ha hr rfl)
  case twiceB =>
    have hfirst := step_pressB ha hr (by rw [State.turn, henv])
    rw [henv] at hfirst
    exact runSteps_two hfirst (step_pressB ha hr rfl)

end Sys2Proof.Machine

/-! CLAIM. The HANDOFF phase and the host register port of 45_handoff_and_host.md: the acknowledge (R200), the READ of each address (R202) and the WRITE (R203) (O25, O26, O28). -/

namespace Sys2Proof.Machine

/-! The hand-off (R200). -/

/-- Settles O25: `State.advance` takes PHASE from 7 back to 0 and writes nothing else. -/
theorem handoffWaitsForTheAcknowledge : Obligations.HandoffWaitsForTheAcknowledge := by
  intro s hr hp
  have hexec := exec_handoff_enabled hr hp
  have hwrap : s.advance = { s with phase := 0#3 } := by rw [State.advance, hp]; rfl
  refine ⟨fun hack => ?acknowledged, fun hack => ?held⟩
  case acknowledged => rw [hexec, if_pos hack, hwrap]
  case held => rw [hexec, hack, if_neg Bool.false_ne_true]

/-! The READ (R202). -/

theorem exec_rd_out {s : State} (hr : s.rst = false) (a : BitVec 4) :
    exec (.rd a) s = .next (s.setRdata (s.hostRead a)) := by simp [exec, execRd, hr]

/-- The words of the addresses 0x0 to 0xA, in their order (R202). -/
def State.mappedWords (s : State) : List Word :=
  [s.status, s.target, s.lvcut, s.duty.setWidth 32, s.current, s.voltage, s.power, s.cursor.setWidth 32,
    s.accShunt.setWidth 32, s.accLowGain.setWidth 32, s.accHighGain.setWidth 32]

theorem State.mappedWords_length (s : State) : s.mappedWords.length = 11 := rfl

theorem State.hostRead_mapped (s : State) {a : BitVec 4} (h : a.toNat < 11) :
    s.hostRead a = s.mappedWords[a.toNat]'(by rwa [s.mappedWords_length]) := by
  unfold State.hostRead
  generalize a.toNat = n at h
  interval_cases n <;> rfl

theorem State.hostRead_reserved (s : State) {a : BitVec 4} (h : 11 ≤ a.toNat) : s.hostRead a = 0#32 := by
  unfold State.hostRead
  split
  case h_12 => rfl
  all_goals omega

/-- A READ looks its address up in the sixteen words of the map: the eleven registers and five reserved zeros. -/
theorem State.hostRead_eq_getD (s : State) (a : BitVec 4) :
    s.hostRead a = ((s.mappedWords ++ List.replicate 5 0#32)[a.toNat]?).getD 0#32 := by
  obtain h | h := Nat.lt_or_ge a.toNat 11
  · rw [s.hostRead_mapped h, List.getElem?_append_left (by rwa [s.mappedWords_length]), List.getElem?_eq_getElem,
      Option.getD_some]
  · rw [s.hostRead_reserved h, List.getElem?_append_right (by rwa [s.mappedWords_length]), List.getElem?_replicate]
    split <;> rfl

/-- Settles O26: the statement's list is the eleven registers followed by the five reserved zeros. -/
theorem readReturnsTheMappedWord : Obligations.ReadReturnsTheMappedWord := by
  intro s a hr
  rw [exec_rd_out hr, s.hostRead_eq_getD]
  rfl

/-! The WRITE (R203). -/

theorem exec_wr_out {s : State} (hr : s.rst = false) (a : BitVec 4) (d : Word) :
    exec (.wr a d) s = .next (s.hostWrite a d) := by simp [exec, execWr, hr]

theorem State.hostWrite_target_address (s : State) (d : Word) : s.hostWrite 0x1#4 d = s.setTarget d := rfl

theorem State.hostWrite_lvcut_address (s : State) (d : Word) : s.hostWrite 0x2#4 d = s.setLvcut d := rfl

theorem State.hostWrite_other_address (s : State) {a : BitVec 4} (d : Word) (htarget : a ≠ 0x1#4) (hlvcut : a ≠ 0x2#4) :
    s.hostWrite a d = s := by
  obtain hnone | ⟨ha, -⟩ | ⟨ha, -⟩ := s.hostWrite_cases a d
  · exact hnone
  · exact absurd ha htarget
  · exact absurd ha hlvcut

/-- Settles O28: at 1 and 2 the setpoint's own update, at any other address the state itself. -/
theorem writeReachesOnlyTheSetpoints : Obligations.WriteReachesOnlyTheSetpoints := by
  intro s a d hr
  rw [exec_wr_out hr]
  refine ⟨?target, ?lvcut, fun htarget hlvcut => ?other⟩
  case target => rintro rfl; rw [s.hostWrite_target_address, State.setTarget]
  case lvcut => rintro rfl; rw [s.hostWrite_lvcut_address, State.setLvcut]
  case other => rw [s.hostWrite_other_address d htarget hlvcut]

end Sys2Proof.Machine

/-! CLAIM. The outcomes of 60_exceptions.md: what a host transaction reaches (R227), and that a step with the invariants neither stops nor leaves the exact range (R220, R221) (O30, O49). -/

namespace Sys2Proof.Machine

open Sys2Proof.Safety

/-! A host transaction (R227). -/

/-- Of what the environment can change, the latches are not the host's: only a press or the MODE phase writes them. -/
theorem Move.latches_of_host {s t : State} {w : HostWord} (h : Move s t) (ht : s.turn = .host w) :
    t.pendA = s.pendA ∧ t.pendB = s.pendB := by
  obtain hsame | ⟨hA, -⟩ | ⟨hB, -⟩ | ⟨⟨-, adc, ack, hseq⟩, -⟩ := h.latch_cases
  · exact hsame
  · simp [ht] at hA
  · simp [ht] at hB
  · simp [ht] at hseq

/-- Settles O30: the step stays within the environment's frame, and of that frame it keeps the latches. -/
theorem hostReachesNothingButTheSetpoints : Obligations.HostReachesNothingButTheSetpoints := by
  intro s w ha hr ht
  obtain ⟨t, hstep, hframe⟩ := step_host_envFrame ha hr ht
  obtain ⟨hA, hB⟩ := (move_of_step hr (by simp [ht]) hstep).latches_of_host ht
  exact ⟨t, hstep, hframe.trans (by rw [hA, hB])⟩

/-! With the cursor in its ring, every step of an admitted configuration answers (R220, R221). -/

theorem State.settle_cursor_lt {s : State} (hc : s.cursor.toNat < 12) : s.settle.cursor.toNat < 12 := by
  unfold State.settle
  split
  · simp
  · exact hc

section
variable {s : State} (ha : admitted s.cfg = true) (hc : s.cursor.toNat < 12)
include ha hc

/-- A phase answers where PHASE selects it, and elsewhere it leaves the state (log 10). -/
theorem exec_phase_code_next {i : Instr} {k : PhaseWord} (hk : encode i = .p k) : ∃ u, exec i s = .next u := by
  by_cases hin : s.rst = false ∧ s.phase = k
  · obtain ⟨hr, hp⟩ := hin
    have hi : i = decodeWord (.p s.phase) := by rw [hp, ← hk, decodeWord_encode]
    rw [hi]
    exact exec_phase_next ha hr hc
  · have hout : s.rst = true ∨ s.phase ≠ k := (not_and_or.1 hin).imp_left Bool.eq_true_of_not_eq_false
    exact ⟨s, aPhaseOutOfItsTurnChangesNothing i k s hk hout⟩

theorem exec_next (i : Instr) : ∃ u, exec i s = .next u := by
  cases i with
  | rd a => exact ⟨_, rfl⟩
  | wr a d => exact ⟨_, rfl⟩
  | _ => exact exec_phase_code_next ha hc rfl

theorem takeTurn_next : ∃ t, takeTurn s = .next t := by
  cases hf : s.fetch with
  | none => exact ⟨_, by rw [takeTurn, hf]⟩
  | some w =>
    obtain ⟨u, hu⟩ := exec_next ha hc (decodeWord w)
    refine ⟨u.dropTurn, ?_⟩
    rw [takeTurn, hf]
    exact congrArg (thenNext State.dropTurn) hu

theorem step_next : ∃ t, step s = .next t := by
  rw [step, if_pos ha]
  exact takeTurn_next (by simpa using ha) (State.settle_cursor_lt hc)

end

/-! With the invariants, every exact result fits its register (00_scope.md R8, 40_sampler.md R100). -/

theorem accInRange_of_blockInv {s : State} (hs : BlockInv s) : AccInRange s := by
  obtain ⟨hsh, hlg, hhg⟩ := hs.sums
  exact ⟨acc_le_of_accIsSum hsh, acc_le_of_accIsSum hlg, acc_le_of_accIsSum hhg⟩

theorem State.measure_freeUses {s : State} (ha : admitted s.cfg = true) (hacc : AccInRange s) :
    s.measure.freeUses = s.freeUses := by rw [State.measure_eq ha hacc, State.measured]

/-- The sums fit by R45 (b) and the measurement by CFG_WF; no other move stores an exact result. -/
theorem Move.freeUses {s t : State} (h : Move s t) (hs : BlockInv s) (ha : admitted s.cfg = true) :
    t.freeUses = s.freeUses := by
  obtain ⟨hsh, hlg, hhg⟩ := hs.sums
  cases h with
  | sampleSh c _ _ _ h => exact State.inserted_freeUses hsh c h
  | sampleLg c _ _ _ h => exact State.inserted_freeUses hlg c h
  | sampleHg c _ _ _ h => exact State.inserted_freeUses hhg c h
  | derive => exact State.measure_freeUses ha (accInRange_of_blockInv hs)
  | wr w a d => rw [State.dropTurn_freeUses, State.hostWrite_eq]
  | _ => simp

/-- Settles O49: the step answers because (a) keeps the cursor in its ring; a move uses no free value, and reset keeps their count. -/
theorem noStepStopsOrLeavesTheExactRange : Obligations.NoStepStopsOrLeavesTheExactRange := by
  intro s hs ha
  obtain ⟨t, hstep⟩ := step_next ha hs.cursor
  refine ⟨t, hstep, ?_⟩
  obtain hmove | rfl | rfl := step_cases hstep
  · exact hmove.freeUses hs ha
  · simp
  · simp

end Sys2Proof.Machine

/-! CLAIM. Reset and the soft start of 70_reset_and_hazards.md: the reset values, the pin asserted, held and released, the host meanwhile (R250, R251), and the ramp down from the off sentinel (R261) (O24, O29, O31). -/

namespace Sys2Proof.Machine

open Sys2Proof.Safety

/-! REGULATE steps one after another (R261). -/

theorem regulateTimes_of_exec {s u : State} (h : exec .regulate { s with phase := 6#3 } = .next u) (n : Nat) :
    regulateTimes (n + 1) s = regulateTimes n u := by rw [regulateTimes, h]

/-- REGULATE is in force and does not trip (42_regulator.md R140, R141). -/
structure Regulating (s : State) : Prop where
  out : s.rst = false
  on : s.mode = .on
  noTrip : s.lvcut.toInt ≤ s.voltage.toInt

section
variable {s : State}

/-- Below the target and above the lower clamp, one step down. -/
theorem Regulating.stepsDown (h : Regulating s) (hlt : s.current.toInt < s.target.toInt) (hlo : 300 < s.duty.toNat) :
    exec .regulate { s with phase := 6#3 } = .next { s with duty := s.duty - 1#16, phase := 7#3 } := by
  have hexec := regulateTripsOrSteps { s with phase := 6#3 } h.out rfl
  rwa [if_pos h.on, if_neg h.noTrip.not_gt, if_pos ⟨hlt, hlo⟩] at hexec

/-- At or above the target, with the duty past the upper clamp, no branch of R140 applies. -/
theorem Regulating.stays (h : Regulating s) (hge : s.target.toInt ≤ s.current.toInt) (hhi : 1000 ≤ s.duty.toNat) :
    exec .regulate { s with phase := 6#3 } = .next { s with phase := 7#3 } := by
  have hexec := regulateTripsOrSteps { s with phase := 6#3 } h.out rfl
  rwa [if_pos h.on, if_neg h.noTrip.not_gt, if_neg fun hdown => hge.not_gt hdown.1,
    if_neg fun hup => hhi.not_gt hup.2] at hexec

end

/-- `n` steps down, as long as they end within the lower clamp. -/
theorem Regulating.ramps {s : State} {n : Nat} (h : Regulating s) (hlt : s.current.toInt < s.target.toInt)
    (hlo : 300 + n ≤ s.duty.toNat) :
    ∃ t, regulateTimes n s = .next t ∧ t.duty.toNat + n = s.duty.toNat ∧ t.mode = .on := by
  induction n generalizing s with
  | zero => exact ⟨s, rfl, rfl, h.on⟩
  | succ n ih =>
    have hone : (s.duty - 1#16).toNat + 1 = s.duty.toNat := by bv_omega
    have hrest : 300 + n ≤ (s.duty - 1#16).toNat := by omega
    obtain ⟨t, hrun, hduty, hon⟩ :=
      ih (s := { s with duty := s.duty - 1#16, phase := 7#3 }) ⟨h.out, h.on, h.noTrip⟩ hlt hrest
    refine ⟨t, ?run, ?duty, hon⟩
    case run => rw [regulateTimes_of_exec (h.stepsDown hlt (by omega)), hrun]
    case duty =>
      calc t.duty.toNat + (n + 1) = t.duty.toNat + n + 1 := (Nat.add_assoc ..).symm
        _ = (s.duty - 1#16).toNat + 1 := by rw [hduty]
        _ = s.duty.toNat := hone

/-- However many steps, the duty stays where no branch of R140 applies. -/
theorem Regulating.stays_times {s : State} (n : Nat) (h : Regulating s) (hge : s.target.toInt ≤ s.current.toInt)
    (hhi : 1000 ≤ s.duty.toNat) : ∃ t, regulateTimes n s = .next t ∧ t.duty = s.duty ∧ t.mode = .on := by
  induction n generalizing s with
  | zero => exact ⟨s, rfl, rfl, h.on⟩
  | succ n ih =>
    rw [regulateTimes_of_exec (h.stays hge hhi)]
    exact ih (s := { s with phase := 7#3 }) ⟨h.out, h.on, h.noTrip⟩ hge hhi

/-- Settles O24: from the sentinel 1025 there are 725 steps to the lower clamp, and 1025 is past the upper one. -/
theorem softStartRampsFromTheSentinel : Obligations.SoftStartRampsFromTheSentinel := by
  intro s n hr hm hd hv
  have hreg : Regulating s := ⟨hr, hm, hv⟩
  have hduty : s.duty.toNat = 1025 := by rw [hd]; rfl
  refine ⟨fun hlt hn => ?below, fun hge => ?atLeast⟩
  case below =>
    obtain ⟨t, hrun, hramp, hon⟩ := hreg.ramps hlt (n := n) (by omega)
    exact ⟨t, hrun, by omega, hon⟩
  case atLeast =>
    obtain ⟨t, hrun, hsame, hon⟩ := hreg.stays_times n hge (by omega)
    exact ⟨t, hrun, by rw [hsame, hduty], hon⟩

/-! The host while `rst` is asserted (R250). -/

theorem exec_rd_in {s : State} (hr : s.rst = true) (a : BitVec 4) : exec (.rd a) s = .next (s.setRdata 0#32) := by
  simp [exec, execRd, hr]

theorem exec_wr_in {s : State} (hr : s.rst = true) (a : BitVec 4) (d : Word) : exec (.wr a d) s = .next s := by
  simp [exec, execWr, hr]

/-- Settles O29: both operations ask for the pin first. -/
theorem hostTransactionsDuringReset : Obligations.HostTransactionsDuringReset :=
  fun _ a d hr => ⟨exec_rd_in hr a, exec_wr_in hr a d⟩

/-! The reset values (R250, R251). -/

theorem resetOf_histRead (c : Config) (ch : Channel) {i : Nat} (h : i < 12) :
    (State.resetOf c).histRead ch i = .ok 0#10 := by
  rw [State.histRead_ok _ _ _ h]
  cases ch <;> simp [State.ring, State.resetOf]

theorem resetOf_acc (c : Config) (ch : Channel) : (State.resetOf c).acc ch = 0#14 := by cases ch <;> rfl

/-! The pin asserted, held and released (R250). -/

/-- No instruction moves a block at its reset values: no phase is enabled, and they hold the 0 that a READ returns. -/
theorem exec_assertReset (s : State) (i : Instr) : exec i s.assertReset = .next s.assertReset := by
  have hr := s.assertReset_rst
  cases i with
  | rd a => rw [exec_rd_in hr]; rfl
  | wr a d => exact exec_wr_in hr a d
  | _ => exact aPhaseOutOfItsTurnChangesNothing _ _ _ rfl (.inl hr)

theorem State.assertReset_turn (s : State) : s.assertReset.turn = s.turn := rfl

/-- Of the turns that run no code word, only the release of the pin moves a block at its reset values. -/
theorem State.assertReset_bareTurn {s : State} (hn : s.turn ≠ .rstRelease) :
    s.assertReset.bareTurn = s.assertReset := by
  rw [State.bareTurn, State.assertReset_turn]
  cases ht : s.turn with
  | seq _ _ => rfl
  | host _ => rfl
  | pressA => exact if_pos s.assertReset_rst
  | pressB => exact if_pos s.assertReset_rst
  | rstAssert => rfl
  | rstRelease => exact absurd ht hn

theorem takeTurn_of_bareTurn {s u : State} (hf : s.fetch = none) (hu : s.bareTurn = u) :
    takeTurn s = .next u.dropTurn := by rw [takeTurn, hf, ← hu]

/-- With the pin asserted every turn but the release leaves the reset values. -/
theorem takeTurn_assertReset {s : State} (hn : s.turn ≠ .rstRelease) :
    takeTurn s.assertReset = .next s.assertReset.dropTurn := by
  cases hf : s.assertReset.fetch with
  | none => exact takeTurn_of_bareTurn hf (State.assertReset_bareTurn hn)
  | some w =>
    rw [takeTurn, hf]
    exact congrArg (thenNext State.dropTurn) (exec_assertReset s (decodeWord w))

section
variable {s : State} (ha : admitted s.cfg = true)
include ha

theorem step_of_asserted (h : s.turn = .rstAssert ∨ (s.rst = true ∧ s.turn ≠ .rstRelease)) :
    step s = .next s.assertReset.dropTurn := by
  rw [step, if_pos ha]
  by_cases hr : s.rst = true
  · rw [State.settle_in s hr]
    exact takeTurn_assertReset (h.elim (fun ht => by simp [ht]) And.right)
  · have ht : s.turn = .rstAssert := h.resolve_right fun hin => hr hin.1
    rw [State.settle_out s (Bool.eq_false_iff.2 hr)]
    exact takeTurn_of_bareTurn (by simp [State.fetch, ht]) (by simp [State.bareTurn, ht])

theorem step_of_release (hr : s.rst = true) (ht : s.turn = .rstRelease) :
    step s = .next s.assertReset.releaseReset.dropTurn := by
  rw [step, if_pos ha, State.settle_in s hr]
  rw [← State.assertReset_turn] at ht
  exact takeTurn_of_bareTurn (by simp [State.fetch, ht]) (by simp [State.bareTurn, ht])

end

/-- Settles O31: the two steps leave `State.assertReset`, which is `State.resetOf` with the model's own fields kept. -/
theorem resetLoadsEveryElement : Obligations.ResetLoadsEveryElement := by
  refine ⟨fun c => ?values, fun s ha => ⟨step_of_asserted ha, fun hr ht => ⟨_, step_of_release ha hr ht, rfl, rfl⟩⟩⟩
  case values =>
    exact ⟨rfl, fun ch _ h => resetOf_histRead c ch h, rfl, resetOf_acc c,
      rfl, rfl, rfl, rfl, rfl, rfl, rfl, rfl, rfl, rfl, rfl, rfl, rfl, rfl, rfl⟩

end Sys2Proof.Machine
